-- ==== Sys2Proof/Word.lean ====
section
/-! DEFINITION. The word types of the machine and the closed sets of names that instructions and
registers draw on (registers, pairs, conditions, operation selectors). -/

namespace Sys2Proof

/-- The addressable unit and the width of a general register (R5). -/
abbrev Byte := BitVec 8

/-- An address, `pc`, `SP` or a register pair (R5, R34). -/
abbrev Addr := BitVec 16

/-- The 8-bit registers a register field selects (R22); F has no index. -/
inductive Reg8 where
  | b | c | d | e | h | l | a
  deriving DecidableEq, Repr

/-- The pairs of the field `rp` (R125). -/
inductive Pair where
  | bc | de | hl | sp
  deriving DecidableEq, Repr

/-- The pairs of the field `rp2`, used by PUSH and POP (R125). -/
inductive StackPair where
  | bc | de | hl | af
  deriving DecidableEq, Repr

/-- The pairs that address memory for loads to and from A only (R24). -/
inductive PtrPair where
  | bc | de
  deriving DecidableEq, Repr

/-- The two ways HL moves after an access through it (R122). -/
inductive HlStep where
  | inc | dec
  deriving DecidableEq, Repr

/-- The condition field `cc` (R126). -/
inductive Cond where
  | nz | z | nc | c
  deriving DecidableEq, Repr

/-- The arithmetic-operation field (R127). -/
inductive AluOp where
  | add | adc | sub | sbc | and | xor | or | cp
  deriving DecidableEq, Repr

/-- The rotate-operation field of the second table (R127). -/
inductive RotOp where
  | rlc | rrc | rl | rr | sla | sra | swap | srl
  deriving DecidableEq, Repr

/-- The accumulator rotates of the first table (R240 to R243). -/
inductive AccRot where
  | rlca | rrca | rla | rra
  deriving DecidableEq, Repr

end Sys2Proof
end

