-- ==== Sys2Proof/Config.lean ====
section
/-! DEFINITION. The parameters of the machine (R6) and the values this model starts from. -/

namespace Sys2Proof

/-- STOP_OUTCOME (R6, D14): the decided terminal outcome, or the two-byte no-op that D14 names. -/
inductive StopOutcome where
  | terminal | noOp
  deriving DecidableEq, Repr

/-- ILLEGAL_OUTCOME (R6, D6, U1): the decided terminal fault, or the no-op that U1 names. -/
inductive IllegalOutcome where
  | fault | noOp
  deriving DecidableEq, Repr

/-- The parameters of R6 that a rule reads while the machine runs. They are held in the state, so that
a claim holds whatever they are; no step changes them (assumption 3, DESIGN CHOICE). -/
structure Params where
  /-- SENTINEL (D8). -/
  sentinel : Byte
  /-- DIV_LO_MAPPED (D18). -/
  divLoMapped : Bool
  /-- STOP_OUTCOME (D14). -/
  stopOutcome : StopOutcome
  /-- ILLEGAL_OUTCOME (D6). -/
  illegalOutcome : IllegalOutcome
  /-- AUDIO_STUB_ADDR (D35). -/
  audioStubAddr : Option Addr
  deriving DecidableEq, Repr

/-- The decided values of R6. -/
def Config.params : Params :=
  { sentinel := 0xFF, divLoMapped := true, stopOutcome := .terminal
    illegalOutcome := .fault, audioStubAddr := none }

/-- RESET_REGS: the CPU's registers at reset (R6, D32). -/
structure ResetRegs where
  a : Byte
  f : Byte
  b : Byte
  c : Byte
  d : Byte
  e : Byte
  h : Byte
  l : Byte
  sp : Addr
  deriving DecidableEq, Repr

/-- RESET_PPU_REGS: the reset column of R43 (R6, D31). -/
structure ResetPpuRegs where
  lcdc : Byte
  statEn : BitVec 4
  scy : Byte
  scx : Byte
  ly : Byte
  lyc : Byte
  /-- The DMA trigger register, which R43 lists among the display registers. -/
  dma : Byte
  bgp : Byte
  obp0 : Byte
  obp1 : Byte
  wy : Byte
  wx : Byte
  deriving DecidableEq, Repr

/-- The parameters of R6 that only reset reads. They are arguments of `Machine.State.boot` and no part of the state. -/
structure ResetValues where
  /-- RESET_REGS. -/
  regs : ResetRegs
  /-- RESET_DIV. -/
  div : BitVec 16
  /-- RESET_IF. -/
  iflag : BitVec 5
  /-- RESET_PPU_REGS. -/
  ppu : ResetPpuRegs
  deriving DecidableEq, Repr

/-- The decided RESET_REGS (R6, R25, R30, D32). -/
def Config.resetRegs : ResetRegs :=
  { a := 0x01, f := 0xB0, b := 0x00, c := 0x13, d := 0x00, e := 0xD8, h := 0x01, l := 0x4D, sp := 0xFFFE }

/-- The decided RESET_DIV (R6, D20). -/
def Config.resetDiv : BitVec 16 := 0xABCC

/-- The decided RESET_IF (R6, D32). -/
def Config.resetIf : BitVec 5 := 0b00001

/-- The decided RESET_PPU_REGS (R6, R43, D31). -/
def Config.resetPpuRegs : ResetPpuRegs :=
  { lcdc := 0x91, statEn := 0b0000, scy := 0x00, scx := 0x00, ly := 0x00, lyc := 0x00, dma := 0xFF
    bgp := 0xFC, obp0 := 0xFF, obp1 := 0xFF, wy := 0x00, wx := 0x00 }

/-- The decided reset values (R6). -/
def Config.resetValues : ResetValues :=
  { regs := Config.resetRegs, div := Config.resetDiv, iflag := Config.resetIf, ppu := Config.resetPpuRegs }

/-- What a byte of memory that nothing has written reads as. INIT_RAM is unspecified (R35, D33, U3):
DESIGN CHOICE, unsafe, assumption 1. -/
def Config.unwrittenByte : Byte := 0x00

end Sys2Proof
end

