-- ==== Sys2Proof/Machine/State.lean ====
section
/-! DEFINITION. The state of the machine: every piece of state the spec names (10_state.md), held as plain
data, with the reset state (R501), and the ways a run can end. -/

namespace Sys2Proof.Machine

/-- A memory: (address, byte) pairs in one canonical form (`Memory.wf`, Machine/Memory.lean). -/
abbrev Memory := List Host.Cell

/-! ### The CPU -/

/-- The register file and the mode flags of the CPU (R20 to R32). -/
structure Cpu where
  a : Byte
  /-- Flags, Zf Nf Hf Cf in bits 7 to 4; bits 3:0 are always zero (R26, R27). -/
  f : Byte
  b : Byte
  c : Byte
  d : Byte
  e : Byte
  h : Byte
  l : Byte
  sp : Addr
  pc : Addr
  halted : Bool
  haltBug : Bool
  prefixedPending : Bool
  ime : Bool
  imeSched : Bool
  /-- The model's own: the address the running opcode byte was fetched from, reported by IllegalOpcode (R330). -/
  opAddr : Addr
  deriving DecidableEq, Repr

/-! ### The timer -/

/-- The overflow marker of the timer (R38). No rule enters `aborted` (R353). -/
inductive TimerState where
  | normal | pending | aborted
  deriving DecidableEq, Repr

/-- The timer (R38). -/
structure Timer where
  div : BitVec 16
  tima : Byte
  tma : Byte
  tac : BitVec 3
  tstate : TimerState
  /-- Ticks spent pending, 0 to 5. -/
  tcycles : Nat
  /-- The latest AND result (R343). -/
  prevAnd : Bool
  deriving DecidableEq, Repr

/-! ### The display controller -/

/-- The scanline modes: 0, 1, 2 and 3 (R40). -/
inductive Mode where
  | hblank | vblank | scan | drawing
  deriving DecidableEq, Repr

/-- The states of the pixel fetcher (R41). -/
inductive FetchState where
  | tileNo | dataLo | dataHi | push
  deriving DecidableEq, Repr

/-- What the fetcher is fetching (R41); a sprite by its index in the buffer. -/
inductive Layer where
  | bg | win | spr (i : Nat)
  deriving DecidableEq, Repr

/-- A sprite buffered for the active scanline (R40, R47). -/
structure Sprite where
  y : Byte
  x : Byte
  tile : Byte
  attr : Byte
  deriving DecidableEq, Repr

/-- A ring buffer: an array of 8 entries, a head index and a size; slot `k` is the entry at `(head + k) mod 8` (R42,
`Fifo.slot`). -/
structure Fifo (α : Type) where
  slots : Vector α 8
  head : Fin 8
  /-- 0 to 8. -/
  size : Nat
  deriving DecidableEq, Repr

/-- The empty ring at reset (R42); the spec gives its array no contents (assumption 5, DESIGN CHOICE). -/
def Fifo.reset {α : Type} (x : α) : Fifo α := { slots := Vector.replicate 8 x, head := 0, size := 0 }

/-- An entry of the sprite queue (R42). -/
structure SpritePixel where
  color : BitVec 2
  pal : Bool
  bgprio : Bool
  deriving DecidableEq, Repr

/-- The display controller: registers (R43), scanline machine (R40), fetcher (R41), queues (R42). -/
structure Display where
  lcdc : Byte
  /-- STAT bits 6:3, the four enables (R45). -/
  statEn : BitVec 4
  scy : Byte
  scx : Byte
  lyc : Byte
  bgp : Byte
  obp0 : Byte
  obp1 : Byte
  wy : Byte
  wx : Byte
  ly : Byte
  lx : Nat
  mode : Mode
  dot : Nat
  /-- The buffered sprites; `spr_count` is the list's length. -/
  spr : List Sprite
  wyMatched : Bool
  windowLine : Byte
  winEngaged : Bool
  statLine : Bool
  fState : FetchState
  fSub : Nat
  fLayer : Layer
  firstFetch : Bool
  /-- The ten "already asked" flags. -/
  asked : List Bool
  fX : Byte
  fTile : Byte
  fLo : Byte
  fHi : Byte
  discard : Nat
  /-- The background queue; an entry is a colour index. -/
  bgFifo : Fifo (BitVec 2)
  spFifo : Fifo SpritePixel
  deriving DecidableEq, Repr

/-- One `emit` call (R445). -/
structure Emit where
  shade : BitVec 2
  column : Nat
  row : Byte
  deriving DecidableEq, Repr

/-! ### OAM DMA, input register, cartridge -/

/-- The OAM DMA machine (R48). -/
structure Dma where
  src : Addr
  dst : Addr
  wait : Nat
  active : Bool
  /-- The last byte written to the trigger register. -/
  reg : Byte
  deriving DecidableEq, Repr

/-- BUTTONS, true = pressed (R471). -/
structure Buttons where
  right : Bool
  left : Bool
  up : Bool
  down : Bool
  a : Bool
  b : Bool
  select : Bool
  start : Bool
  deriving DecidableEq, Repr

/-- The input register (R49) with the buttons behind it. -/
structure Joypad where
  /-- Bit 1 is register bit 5 (auxiliary group), bit 0 register bit 4 (directions); 0 = selected. -/
  sel : BitVec 2
  /-- The low nibble at the last poll. -/
  prev : BitVec 4
  buttons : Buttons
  deriving DecidableEq, Repr

/-- The cartridge variants (R481, R483). -/
inductive Mapper where
  | noMapper | banked
  deriving DecidableEq, Repr

/-- The cartridge (R36, R480, R483): the image and external RAM by offset, and the variant's registers. -/
structure Cart where
  mapper : Mapper
  /-- 16 KB banks in the image. -/
  nbanks : Nat
  /-- The image; nothing writes it. -/
  rom : Memory
  /-- Bytes of external RAM. -/
  ramSize : Nat
  ram : Memory
  bank1 : BitVec 5
  bank2 : BitVec 2
  ramEn : Bool
  bmode : Bool
  deriving DecidableEq, Repr

/-! ### The state -/

/-- The whole machine. -/
structure State where
  cpu : Cpu
  /-- The T-cycle counter, which no rule reads (R33). -/
  clk : Nat
  /-- IE (R37). -/
  ie : BitVec 5
  /-- IF (R37). -/
  iflag : BitVec 5
  /-- `vram`, `wram`, `oam` and `hram`, by bus address (R35). -/
  mem : Memory
  timer : Timer
  display : Display
  dma : Dma
  joypad : Joypad
  cart : Cart
  /-- The byte behind the audio stub, if one is mapped (R478). -/
  audioStub : Byte
  /-- The `emit` calls made so far, newest first (R445). -/
  emits : List Emit
  /-- The host events to come, one entry a step; `some b` is `HostPoll(b)` (R476). -/
  hostInput : List (Option Buttons)
  /-- The parameters of R6. -/
  params : Params
  deriving DecidableEq, Repr

/-! ### How a run ends -/

/-- The kinds of configuration error (R332). -/
inductive ConfigErrorKind where
  | unsupportedMapper | ramSizeMismatch | badImage | noRam
  deriving DecidableEq, Repr

/-- The terminal outcomes, as a rule raises them (R330 to R332). -/
inductive Raise where
  | illegalOpcode (op : Byte) (addr : Addr)
  | stopped (pc : Addr)
  | configError (kind : ConfigErrorKind)
  deriving DecidableEq, Repr

/-- The faults of a step. Each keeps the state at the raise (R12, assumption 10). -/
inductive Fault where
  /-- Raised by the eleven unused first-table opcodes under ILLEGAL_OUTCOME = fault (R297, R330). Safe: the run
  ends where the spec ends it. -/
  | illegalOpcode (op : Byte) (addr : Addr) (kept : State)
  /-- Raised by STOP under STOP_OUTCOME = terminal (R292, R331). Safe: the run ends where the spec ends it. -/
  | stopped (pc : Addr) (kept : State)
  /-- Raised with `noRam` by a bus access, the CPU's or the DMA machine's, to the external-RAM window of a banked
  cartridge that has no RAM while its enable latch is set (R332, R489). Safe: the run ends where the spec ends it. -/
  | configError (kind : ConfigErrorKind) (kept : State)
  deriving DecidableEq, Repr

/-- The refusals of a step. -/
inductive Refusal where
  /-- Raised by an arm of `exec` whose instruction has no meaning in this model; no arm of this model does. Safe: the
  model stops. -/
  | notModelled (mnemonic : String)
  deriving DecidableEq, Repr

/-! ### Reset -/

/-- The CPU at reset, for RESET_REGS `r` (R25, R29, R30, R32, R501); bits 3:0 of F are zero (R20, R27). -/
def Cpu.boot (r : ResetRegs) : Cpu :=
  { a := r.a, f := r.f &&& 0xF0, b := r.b, c := r.c, d := r.d, e := r.e, h := r.h, l := r.l
    sp := r.sp, pc := 0x0100, halted := false, haltBug := false, prefixedPending := false
    ime := false, imeSched := false, opAddr := 0x0000 }

/-- The timer at reset, for RESET_DIV `div` (R39, R501). -/
def Timer.boot (div : BitVec 16) : Timer :=
  { div := div, tima := 0x00, tma := 0x00, tac := 0b000, tstate := .normal
    tcycles := 0, prevAnd := false }

/-- The timer at reset with the decided RESET_DIV. -/
def Timer.reset : Timer := Timer.boot Config.resetDiv

/-- The display controller at reset, for RESET_PPU_REGS `r` (R40 to R43, R501). -/
def Display.boot (r : ResetPpuRegs) : Display :=
  { lcdc := r.lcdc, statEn := r.statEn, scy := r.scy, scx := r.scx, lyc := r.lyc, bgp := r.bgp, obp0 := r.obp0
    obp1 := r.obp1, wy := r.wy, wx := r.wx, ly := r.ly, lx := 0, mode := .scan, dot := 0, spr := []
    wyMatched := false, windowLine := 0, winEngaged := false, statLine := false
    fState := .tileNo, fSub := 0, fLayer := .bg, firstFetch := true
    asked := List.replicate 10 false, fX := 0, fTile := 0, fLo := 0, fHi := 0, discard := 0
    bgFifo := Fifo.reset 0, spFifo := Fifo.reset { color := 0, pal := false, bgprio := false } }

/-- The display controller at reset with the decided RESET_PPU_REGS. -/
def Display.reset : Display := Display.boot Config.resetPpuRegs

/-- The DMA machine at reset, for the trigger register's value `reg` of RESET_PPU_REGS (R43, R48, R501). -/
def Dma.boot (reg : Byte) : Dma := { src := 0, dst := 0, wait := 0, active := false, reg := reg }

/-- No button pressed (R471). -/
def Buttons.released : Buttons :=
  { right := false, left := false, up := false, down := false
    a := false, b := false, select := false, start := false }

/-- The input register at reset (R49, R501). -/
def Joypad.reset : Joypad := { sel := 0b11, prev := 0b1111, buttons := Buttons.released }

/-- The cartridge of `State.reset`: the no-mapper variant with an image and RAM nobody has supplied
(assumption 2, DESIGN CHOICE); its registers as R501 resets them. -/
def Cart.blank : Cart :=
  { mapper := .noMapper, nbanks := 2, rom := [], ramSize := 0, ram := []
    bank1 := 1, bank2 := 0, ramEn := false, bmode := false }

/-- The machine right after reset, for the arguments of R6: the parameters `p` that rules read, the values `v` that
reset reads, INIT_RAM `ram`, CART `cart` (as loaded, with its registers at reset), and BUTTONS over time as the host
events to come (R501). -/
def State.boot (p : Params) (v : ResetValues) (ram : Memory) (cart : Cart) (host : List (Option Buttons)) : State :=
  { cpu := Cpu.boot v.regs, clk := 0, ie := 0, iflag := v.iflag, mem := ram
    timer := Timer.boot v.div, display := Display.boot v.ppu, dma := Dma.boot v.ppu.dma, joypad := Joypad.reset
    cart := cart, audioStub := 0, emits := [], hostInput := host, params := p }

/-- The machine right after reset (R500, R501): the decided parameters and reset values, no memory listed, the blank
cartridge, no host event. -/
def State.reset : State := State.boot Config.params Config.resetValues [] Cart.blank []

end Sys2Proof.Machine
end

