-- ==== Sys2Proof/Machine/Cartridge.lean ====
section
/-! DEFINITION. The cartridge (64_io_cartridge.md section 3): `CartRead`, `CartWrite` and the selection of the variant
when an image is loaded. -/

namespace Sys2Proof.Machine

/-- The ROM bank behind an address below 0x8000 of the banked variant (R484). -/
def Cart.romBank (c : Cart) (a : Addr) : Nat :=
  if a.toNat < 0x4000 then
    if c.bmode then (c.bank2.toNat * 32) % c.nbanks else 0
  else (c.bank2.toNat * 32 + c.bank1.toNat) % c.nbanks

/-- The image offset an address below 0x8000 reads (R481, R484). -/
def Cart.romOffset (c : Cart) (a : Addr) : Nat :=
  match c.mapper with
  | .noMapper => a.toNat
  | .banked => c.romBank a * 16384 + a.toNat % 16384

/-- The external-RAM offset an address of the window 0xA000 to 0xBFFF reaches (R489). -/
def Cart.ramOffset (c : Cart) (a : Addr) : Nat :=
  ((if c.bmode then c.bank2.toNat else 0) * 8192 + (a.toNat - 0xA000)) % c.ramSize

/-- The one condition under which an access to the external-RAM window is a configuration error (R489). -/
def Cart.ramMissing (c : Cart) : Bool :=
  decide (c.mapper = .banked) && c.ramEn && decide (c.ramSize = 0)

/-- Whether the external-RAM window reaches RAM (R481, R489). -/
def Cart.ramUsable (c : Cart) : Bool :=
  decide (c.mapper = .banked) && c.ramEn && decide (c.ramSize ≠ 0)

/-- `CartRead` below 0x8000 (R481, R484). -/
def Cart.readRom (c : Cart) (a : Addr) : Byte := c.rom.read (c.romOffset a)

/-- `CartRead` of 0xA000 to 0xBFFF where it is no configuration error (R481, R489). -/
def Cart.readRam (sentinel : Byte) (c : Cart) (a : Addr) : Byte :=
  if c.ramUsable then c.ram.read (c.ramOffset a) else sentinel

/-- `CartWrite` below 0x8000: ignored without a mapper (R481), else the four register windows (R485 to R488). -/
def Cart.writeRom (c : Cart) (a : Addr) (v : Byte) : Cart :=
  match c.mapper with
  | .noMapper => c
  | .banked =>
    if a.toNat < 0x2000 then { c with ramEn := decide (v.extractLsb' 0 4 = 0xA) }
    else if a.toNat < 0x4000 then
      { c with bank1 := if v.extractLsb' 0 5 = 0 then 1 else v.extractLsb' 0 5 }
    else if a.toNat < 0x6000 then { c with bank2 := v.extractLsb' 0 2 }
    else { c with bmode := v.getLsbD 0 }

/-- `CartWrite` of 0xA000 to 0xBFFF where it is no configuration error (R481, R489). -/
def Cart.writeRam (c : Cart) (a : Addr) (v : Byte) : Cart :=
  if c.ramUsable then { c with ram := c.ram.write (c.ramOffset a) v } else c

/-! ### Loading (R482) -/

/-- The bytes of external RAM of a RAM size class (R482). -/
def ramClassSize (cls : Byte) : Option Nat :=
  if cls = 0x00 then some 0 else if cls = 0x01 then some 2048
  else if cls = 0x02 then some 8192 else if cls = 0x03 then some 32768 else none

/-- Build the cartridge for an image of `len` bytes with the initial RAM `ram`, or name the load-time error (R332,
R481 to R483). The image's size is checked first, then the mapper type, then the RAM class (assumption 17). -/
def Cart.load (image : Memory) (len : Nat) (ram : Memory) : Except ConfigErrorKind Cart :=
  let kind := image.read 0x0147
  let size := ramClassSize (image.read 0x0149)
  if len < 32768 ∨ len % 16384 ≠ 0 then .error .badImage
  else if kind = 0x00 then
    if len ≠ 32768 then .error .badImage
    else if size ≠ some 0 then .error .ramSizeMismatch
    else .ok
      { mapper := .noMapper, nbanks := 2, rom := image, ramSize := 0, ram := ram
        bank1 := 1, bank2 := 0, ramEn := false, bmode := false }
  else if kind = 0x01 ∨ kind = 0x02 ∨ kind = 0x03 then
    match size with
    | none => .error .ramSizeMismatch
    | some n =>
      if kind = 0x01 ∧ n ≠ 0 then .error .ramSizeMismatch
      else .ok
        { mapper := .banked, nbanks := len / 16384, rom := image, ramSize := n, ram := ram
          bank1 := 1, bank2 := 0, ramEn := false, bmode := false }
  else .error .unsupportedMapper

end Sys2Proof.Machine
end

