-- ==== Sys2Proof/Machine/Fifo.lean ====
section
/-! DEFINITION. The operations of a pixel queue, a ring buffer of eight entries (R42). -/

namespace Sys2Proof.Machine

variable {α : Type}

/-- The array index of slot `k` (R42). -/
def Fifo.index (r : Fifo α) (k : Nat) : Fin 8 := Fin.ofNat 8 (r.head.val + k)

/-- Slot `k`: the entry at `(head + k) mod 8` (R42). -/
def Fifo.slot (r : Fifo α) (k : Nat) : α := r.slots[r.index k]

/-- Write slot `k`. -/
def Fifo.setSlot (r : Fifo α) (k : Nat) (x : α) : Fifo α := { r with slots := r.slots.set (r.index k) x }

/-- `<- empty`: size 0 and head 0 (R42). -/
def Fifo.empty (r : Fifo α) : Fifo α := { r with head := 0, size := 0 }

/-- Append an entry to a queue that is not full. -/
def Fifo.append (r : Fifo α) (x : α) : Fifo α := { r.setSlot r.size x with size := r.size + 1 }

/-- Append entries in order. -/
def Fifo.appendAll (r : Fifo α) : List α → Fifo α
  | [] => r
  | x :: rest => (r.append x).appendAll rest

/-- Slot 0, if there is one. -/
def Fifo.first (r : Fifo α) : Option α := if r.size = 0 then none else some (r.slot 0)

/-- Pop slot 0, if there is one: the next slot becomes the head (R410). -/
def Fifo.pop (r : Fifo α) : Fifo α :=
  if r.size = 0 then r else { r with head := r.head + 1, size := r.size - 1 }

end Sys2Proof.Machine
end

