-- ==== Sys2Proof/Machine/Display.lean ====
section
/-! DEFINITION. The display controller (62_display_controller.md): scanline modes, pixel fetcher, pixel mixer and the
display-status interrupt. A tick reads `vram` and `oam` from the memory it is given; it answers the new controller,
the pixel emitted if any, and the interrupt requests it makes (bit 0 vertical-blank, bit 1 display-status). -/

namespace Sys2Proof.Machine

/-! ### Registers and numbers -/

/-- The number a mode is read as (R40). -/
def Mode.bits : Mode → BitVec 2
  | .hblank => 0
  | .vblank => 1
  | .scan => 2
  | .drawing => 3

/-- A read of STAT (R452). -/
def Display.readStat (d : Display) : Byte :=
  1#1 ++ d.statEn ++ BitVec.ofBool (decide (d.ly = d.lyc)) ++ d.mode.bits

/-- A palette register's output for a colour index (R46). -/
def paletteShade (pal : Byte) (i : BitVec 2) : BitVec 2 := pal.extractLsb' (2 * i.toNat) 2

/-- The sprite height (R44, R381). -/
def Display.spriteHeight (d : Display) : Nat := if d.lcdc.getLsbD 2 then 16 else 8

/-- The sprite buffered at an index; an index past the buffer, which no reachable state holds, gives the zero sprite
(assumption 16). -/
def Display.sprite (d : Display) (i : Nat) : Sprite :=
  (d.spr[i]?).getD { y := 0, x := 0, tile := 0, attr := 0 }

/-! ### Per-scanline state -/

/-- `LineReset()` (R421). -/
def Display.lineReset (d : Display) : Display :=
  { d with
    lx := 0, bgFifo := d.bgFifo.empty, spFifo := d.spFifo.empty, fState := .tileNo, fSub := 0, fLayer := .bg
    firstFetch := true, asked := List.replicate 10 false, fX := 0, discard := 0, spr := []
    winEngaged := false }

/-- `ForceOff()` (R375). -/
def Display.forceOff (d : Display) : Display :=
  { ({ d with ly := 0, mode := .hblank, dot := 0 } : Display).lineReset with
    wyMatched := false, windowLine := 0, statLine := false }

/-! ### Mode 2 (R380 to R383) -/

/-- The address of byte `k` of OAM entry `n` on the bus. -/
def oamAddr (n k : Nat) : Nat := 0xFE00 + 4 * n + k

/-- Whether a sprite entry's X is nonzero and scanline `ly` lies in its vertical extent (R381, D25). DESIGN CHOICE: U20
has a sprite with X = 0 selected by the Y test alone; the model follows R381 (assumption 20). -/
def spriteOnLine (ly y x : Byte) (h : Nat) : Bool :=
  decide (x ≠ 0) && decide (ly.toNat + 16 ≥ y.toNat) && decide (ly.toNat + 16 < y.toNat + h)

/-- `ScanEntry(n)` (R381). -/
def Display.scanEntry (m : Memory) (d : Display) (n : Nat) : Display :=
  let y := m.read (oamAddr n 0)
  let x := m.read (oamAddr n 1)
  if decide (d.spr.length < 10) && spriteOnLine d.ly y x d.spriteHeight then
    { d with
      spr := d.spr ++
        [{ y := y, x := x, tile := m.read (oamAddr n 2), attr := m.read (oamAddr n 3) }] }
  else d

/-- `Mode2Tick()` (R380, R383). -/
def Display.mode2Tick (m : Memory) (d : Display) : Display :=
  let d1 := if d.dot % 2 = 1 then d.scanEntry m (d.dot / 2) else d
  let d2 : Display := if d1.ly = d1.wy then { d1 with wyMatched := true } else d1
  let d3 : Display := { d2 with dot := d2.dot + 1 }
  if d3.dot = 80 then { d3 with mode := .drawing } else d3

/-! ### The pixel fetcher (R400 to R408) -/

/-- The address of a tile number in a tile map (R401, R402). -/
def tileMapAddr (high : Bool) (row col : Nat) : Nat :=
  (if high then 0x9C00 else 0x9800) + 32 * row + col

/-- `FetchTileNo()` (R401 to R403). -/
def Display.fetchTileNo (m : Memory) (d : Display) : Byte :=
  match d.fLayer with
  | .bg =>
    m.read (tileMapAddr (d.lcdc.getLsbD 3) ((d.ly.toNat + d.scy.toNat) % 256 / 8)
      ((d.scx.toNat / 8 + d.fX.toNat) % 32))
  | .win =>
    m.read (tileMapAddr (d.lcdc.getLsbD 6) (d.windowLine.toNat / 8 % 32) (d.fX.toNat % 32))
  | .spr i => (d.sprite i).tile

/-- `TileBase(t)` (R404). -/
def Display.tileBase (d : Display) (t : Byte) : Nat :=
  if d.lcdc.getLsbD 4 then 0x8000 + 16 * t.toNat
  else if t.toNat < 128 then 0x9000 + 16 * t.toNat
  else 0x9000 - 16 * (256 - t.toNat)

/-- The row of sprite `p` being fetched, after vertical flip (R404). The sum is taken 256 up, so that a Y above the
scanline does not truncate; both heights divide 256. -/
def Display.spriteRow (d : Display) (p : Sprite) : Nat :=
  let h := d.spriteHeight
  let r := (d.ly.toNat + 16 + 256 - p.y.toNat) % h
  if p.attr.getLsbD 6 then h - 1 - r else r

/-- `DataAddr()` (R404). -/
def Display.dataAddr (d : Display) : Nat :=
  match d.fLayer with
  | .bg => d.tileBase d.fTile + 2 * ((d.ly.toNat + d.scy.toNat) % 8)
  | .win => d.tileBase d.fTile + 2 * (d.windowLine.toNat % 8)
  | .spr i =>
    let t := if d.lcdc.getLsbD 2 then d.fTile &&& 0xFE else d.fTile
    0x8000 + 16 * t.toNat + 2 * d.spriteRow (d.sprite i)

/-- The colour index of pixel `k` of the latched row, unflipped (R405). -/
def Display.px (d : Display) (k : Nat) : BitVec 2 :=
  BitVec.ofBool (d.fHi.getLsbD (7 - k)) ++ BitVec.ofBool (d.fLo.getLsbD (7 - k))

/-- The colour index of pixel `k` of the latched row of a sprite (R405). -/
def Display.spritePx (d : Display) (p : Sprite) (k : Nat) : BitVec 2 :=
  if p.attr.getLsbD 5 then d.px (7 - k) else d.px k

/-- `TryPush()` for the background and window layers; `none` where it answers false (R407, R411). -/
def Display.pushBackground (d : Display) : Option Display :=
  if d.bgFifo.size ≠ 0 then none
  else
    some { d with
      bgFifo := d.bgFifo.appendAll [d.px 0, d.px 1, d.px 2, d.px 3, d.px 4, d.px 5, d.px 6, d.px 7]
      fX := d.fX + 1
      firstFetch := false
      discard := if d.firstFetch && decide (d.fLayer = .bg) then d.scx.toNat % 8 else d.discard }

/-- The filler of the sprite queue (R408). -/
def transparentPixel : SpritePixel := { color := 0, pal := false, bgprio := false }

/-- What pixel `k` of sprite `p` leaves in a slot that holds `s`: an opaque pixel replaces a transparent one (R408). -/
def Display.mergePixel (d : Display) (p : Sprite) (k : Nat) (s : SpritePixel) : SpritePixel :=
  if decide (s.color = 0) && decide (d.spritePx p k ≠ 0) then
    { color := d.spritePx p k, pal := p.attr.getLsbD 4, bgprio := p.attr.getLsbD 7 }
  else s

/-- Merge the pixels from `skip` on of sprite `p` into the first `n` slots of the sprite queue, in order (R408). -/
def Display.mergeSprite (d : Display) (p : Sprite) (skip : Nat) : Nat → Fifo SpritePixel → Fifo SpritePixel
  | 0, q => q
  | n + 1, q =>
    let q' := d.mergeSprite p skip n q
    q'.setSlot n (d.mergePixel p (skip + n) (q'.slot n))

/-- `TryPush()` for a sprite: fill the queue to eight, merge, return to the background layer (R408). -/
def Display.pushSprite (d : Display) (i : Nat) : Display :=
  let p := d.sprite i
  let skip := d.lx + 8 - p.x.toNat
  let filled := d.spFifo.appendAll (List.replicate (8 - d.spFifo.size) transparentPixel)
  { d with spFifo := d.mergeSprite p skip (8 - skip) filled, fLayer := .bg }

/-- The action of the fetcher's state, on its second tick (R400). -/
def Display.fetcherAct (m : Memory) (d : Display) : Display :=
  match d.fState with
  | .tileNo => { d with fTile := d.fetchTileNo m, fState := .dataLo, fSub := 0 }
  | .dataLo => { d with fLo := m.read d.dataAddr, fState := .dataHi, fSub := 0 }
  | .dataHi => { d with fHi := m.read (d.dataAddr + 1), fState := .push, fSub := 0 }
  | .push =>
    match d.fLayer with
    | .spr i => { d.pushSprite i with fState := .tileNo, fSub := 0 }
    | _ =>
      match d.pushBackground with
      | some d' => { d' with fState := .tileNo, fSub := 0 }
      | none => d

/-- `FetcherStep()` (R400). -/
def Display.fetcherStep (m : Memory) (d : Display) : Display :=
  let d1 : Display := if d.fSub < 2 then { d with fSub := d.fSub + 1 } else d
  if d1.fSub < 2 then d1 else d1.fetcherAct m

/-! ### The pixel mixer (R410 to R412) -/

/-- The mix rule: the sprite pixel's shade where it wins, else the background's (R410, R412). -/
def Display.mixShade (d : Display) (b : BitVec 2) (s : Option SpritePixel) : BitVec 2 :=
  let bgc := if d.lcdc.getLsbD 0 then b else 0
  match s with
  | some p =>
    if decide (p.color ≠ 0) && !(p.bgprio && decide (bgc ≠ 0)) && d.lcdc.getLsbD 1 then
      paletteShade (if p.pal then d.obp1 else d.obp0) p.color
    else paletteShade d.bgp bgc
  | none => paletteShade d.bgp bgc

/-- `MixerStep()` (R410, R411). -/
def Display.mixerStep (d : Display) : Display × Option Emit :=
  match d.bgFifo.first with
  | none => (d, none)
  | some b =>
    if d.discard > 0 then ({ d with bgFifo := d.bgFifo.pop, discard := d.discard - 1 }, none)
    else
      ({ d with bgFifo := d.bgFifo.pop, spFifo := d.spFifo.pop, lx := d.lx + 1 },
        some { shade := d.mixShade b d.spFifo.first, column := d.lx, row := d.ly })

/-! ### Mode 3 (R390 to R393) -/

/-- The least buffer index, from `i` on, whose sprite has been reached and not yet asked for (R391). -/
def nextSprite (asked : List Bool) (lx : Nat) : List Sprite → Nat → Option Nat
  | [], _ => none
  | p :: rest, i =>
    if !(asked[i]?.getD false) && decide (p.x.toNat ≤ lx + 8) then some i
    else nextSprite asked lx rest (i + 1)

/-- Whether a sprite fetch is in progress. -/
def Layer.isSprite : Layer → Bool
  | .spr _ => true
  | _ => false

/-- The window switch's condition (R392). -/
def Display.windowReached (d : Display) : Bool :=
  d.lcdc.getLsbD 5 && d.wyMatched && decide (d.lx + 7 ≥ d.wx.toNat) && decide (d.fLayer ≠ .win)

/-- The window switch: the reset of queue, column and discard is made once a scanline (R392). -/
def Display.enterWindow (d : Display) : Display :=
  let d1 : Display := { d with fLayer := .win, fState := .tileNo, fSub := 0 }
  if d.winEngaged then d1 else { d1 with winEngaged := true, bgFifo := d.bgFifo.empty, fX := 0, discard := 0 }

/-- The arbitration of a drawing tick, with whether the mixer runs (R390). -/
def Display.arbitrate (d : Display) : Display × Bool :=
  if d.fLayer.isSprite then (d, false)
  else
    match nextSprite d.asked d.lx d.spr 0 with
    | some i =>
      ({ d with asked := d.asked.set i true, fLayer := .spr i, fState := .tileNo, fSub := 0 }, false)
    | none => if d.windowReached then (d.enterWindow, false) else (d, true)

/-- The end of a scanline's 456 ticks after drawing or horizontal blank, with the vertical-blank request (R420). -/
def Display.endLine (d : Display) : Display × BitVec 5 :=
  let wl := if d.winEngaged then d.windowLine + 1 else d.windowLine
  let d1 : Display := { d with dot := 0, windowLine := wl }.lineReset
  let ly' := d1.ly + 1
  if ly' = 144 then ({ d1 with ly := ly', mode := .vblank }, 0b00001)
  else ({ d1 with ly := ly', mode := .scan }, 0)

/-- The mixer's part of a drawing tick: it runs where the arbitration let it (R393). -/
def Display.mixWhen (run : Bool) (d : Display) : Display × Option Emit :=
  if run then d.mixerStep else (d, none)

/-- The dot of a drawing tick is counted, and drawing ends with the last pixel (R390, R414). A scanline that reached tick 456
while drawing, which no reachable state does, ends there, as R414 allows (assumption 6). -/
def Display.drawnDot (d : Display) : Display × BitVec 5 :=
  let d1 : Display := { d with dot := d.dot + 1 }
  if d1.dot = 456 then d1.endLine else if d1.lx = 160 then ({ d1 with mode := .hblank }, 0) else (d1, 0)

/-- `Mode3Tick()`: arbitration, then the fetcher, then the mixer, then the dot (R390). -/
def Display.mode3Tick (m : Memory) (d : Display) : Display × Option Emit × BitVec 5 :=
  let mix := (d.arbitrate.1.fetcherStep m).mixWhen d.arbitrate.2
  (mix.1.drawnDot.1, mix.2, mix.1.drawnDot.2)

/-! ### Modes 0 and 1 (R420, R425) -/

/-- `Mode0Tick()` (R420). -/
def Display.mode0Tick (d : Display) : Display × BitVec 5 :=
  let d1 : Display := { d with dot := d.dot + 1 }
  if d1.dot = 456 then d1.endLine else (d1, 0)

/-- `Mode1Tick()` (R425). -/
def Display.mode1Tick (d : Display) : Display :=
  let d1 : Display := { d with dot := d.dot + 1 }
  if d1.dot = 456 then
    if d1.ly = 153 then
      { d1 with dot := 0, ly := 0, wyMatched := false, windowLine := 0, mode := .scan }
    else { d1 with dot := 0, ly := d1.ly + 1 }
  else d1

/-! ### The display-status interrupt (R450) -/

/-- The composite condition (R450). -/
def Display.statCondition (d : Display) : Bool :=
  (d.statEn.getLsbD 3 && decide (d.ly = d.lyc)) ||
  (d.statEn.getLsbD 2 && (decide (d.mode = .scan) || decide (d.ly = 144))) ||
  (d.statEn.getLsbD 1 && decide (d.mode = .vblank)) ||
  (d.statEn.getLsbD 0 && decide (d.mode = .hblank))

/-- `StatUpdate()`: request on the rising edge (R450). -/
def Display.statUpdate (d : Display) : Display × BitVec 5 :=
  let line := d.statCondition
  ({ d with statLine := line }, if line && !d.statLine then 0b00010 else 0)

/-! ### The tick (R371) -/

/-- The tick function of the mode the tick begins in (R371). -/
def Display.modeTick (m : Memory) (d : Display) : Display × Option Emit × BitVec 5 :=
  match d.mode with
  | .scan => (d.mode2Tick m, none, 0)
  | .drawing => d.mode3Tick m
  | .hblank =>
    let r := d.mode0Tick
    (r.1, none, r.2)
  | .vblank => (d.mode1Tick, none, 0)

/-- `DisplayTick()` after its DMA tick (R371, R375). -/
def Display.tick (m : Memory) (d : Display) : Display × Option Emit × BitVec 5 :=
  if d.lcdc.getLsbD 7 then
    let r := d.modeTick m
    let u := r.1.statUpdate
    (u.1, r.2.1, r.2.2 ||| u.2)
  else (d.forceOff, none, 0)

/-- Fold a list of `emit` calls, newest first, into the picture (R445, R50): the latest shade of a pixel, if any. -/
def shadeAt (column : Nat) (row : Byte) : List Emit → Option (BitVec 2)
  | [] => none
  | e :: rest => if e.column = column ∧ e.row = row then some e.shade else shadeAt column row rest

end Sys2Proof.Machine
end

