-- ==== Sys2Proof/Machine/Flags.lean ====
section
/-! DEFINITION. The flags and every computation that sets them: the ALU functions (R190, R191), decimal adjustment
(R220), the 16-bit additions (R183, R230, R233) and the shift functions (R266). Operands are taken to integers,
the result is computed exactly and narrowed at the end. -/

namespace Sys2Proof.Machine

/-- The four flags (R26). -/
structure Flags where
  z : Bool
  n : Bool
  h : Bool
  c : Bool
  deriving DecidableEq, Repr

/-- Four bits, the first the most significant. -/
def nibble (b3 b2 b1 b0 : Bool) : BitVec 4 :=
  BitVec.ofBool b3 ++ BitVec.ofBool b2 ++ BitVec.ofBool b1 ++ BitVec.ofBool b0

/-- F from the four flags: Zf, Nf, Hf, Cf in bits 7 to 4, bits 3:0 zero (R26, R27). -/
def Flags.toByte (x : Flags) : Byte := nibble x.z x.n x.h x.c ++ 0#4

/-- The four flags of F (R26). -/
def Flags.ofByte (f : Byte) : Flags :=
  { z := f.getLsbD 7, n := f.getLsbD 6, h := f.getLsbD 5, c := f.getLsbD 4 }

/-- Bits 3:0 as a number. -/
def lowNibble (v : Byte) : Nat := v.toNat % 16

/-! ### 8-bit arithmetic (R191) -/

/-- `add8(a, b, cin)`. -/
def add8 (a b : Byte) (cin : Bool) : Byte × Flags :=
  let s := a.toNat + b.toNat + cin.toNat
  let res := BitVec.ofNat 8 s
  (res,
    { z := decide (res = 0), n := false
      h := decide (lowNibble a + lowNibble b + cin.toNat > 0xF), c := decide (s > 0xFF) })

/-- `sub8(a, b, cin)`. -/
def sub8 (a b : Byte) (cin : Bool) : Byte × Flags :=
  let d : Int := (a.toNat : Int) - (b.toNat : Int) - (cin.toNat : Int)
  let res := BitVec.ofInt 8 d
  (res,
    { z := decide (res = 0), n := true
      h := decide ((lowNibble a : Int) - (lowNibble b : Int) - (cin.toNat : Int) < 0)
      c := decide (d < 0) })

/-- AND: half-carry always set, carry cleared (R190, R204). -/
def and8 (a b : Byte) : Byte × Flags :=
  let res := a &&& b
  (res, { z := decide (res = 0), n := false, h := true, c := false })

/-- XOR: half-carry and carry cleared (R190, R207). -/
def xor8 (a b : Byte) : Byte × Flags :=
  let res := a ^^^ b
  (res, { z := decide (res = 0), n := false, h := false, c := false })

/-- OR: half-carry and carry cleared (R190, R210). -/
def or8 (a b : Byte) : Byte × Flags :=
  let res := a ||| b
  (res, { z := decide (res = 0), n := false, h := false, c := false })

/-- The operation the field of R127 selects, on A, the operand and the flags before: the new A and the flags
(R192 to R215). CP discards its result. -/
def alu8 (op : AluOp) (a b : Byte) (f : Flags) : Byte × Flags :=
  match op with
  | .add => add8 a b false
  | .adc => add8 a b f.c
  | .sub => sub8 a b false
  | .sbc => sub8 a b f.c
  | .and => and8 a b
  | .xor => xor8 a b
  | .or => or8 a b
  | .cp => (a, (sub8 a b false).2)

/-- INC of a byte; Cf is kept (R216). -/
def inc8 (v : Byte) (f : Flags) : Byte × Flags :=
  let res := v + 1
  (res, { z := decide (res = 0), n := false, h := decide (lowNibble v = 0xF), c := f.c })

/-- DEC of a byte; Cf is kept (R218). -/
def dec8 (v : Byte) (f : Flags) : Byte × Flags :=
  let res := v - 1
  (res, { z := decide (res = 0), n := true, h := decide (lowNibble v = 0x0), c := f.c })

/-- Decimal adjustment of A (R220). -/
def daa8 (a : Byte) (f : Flags) : Byte × Flags :=
  if f.n then
    let a1 := if f.c then a - 0x60 else a
    let a2 := if f.h then a1 - 0x06 else a1
    (a2, { z := decide (a2 = 0), n := f.n, h := false, c := f.c })
  else
    let high := f.c || decide (a.toNat > 0x99)
    let a1 := if high then a + 0x60 else a
    let a2 := if f.h || decide (lowNibble a > 0x9) then a1 + 0x06 else a1
    (a2, { z := decide (a2 = 0), n := f.n, h := false, c := high })

/-- Complement of A; Zf and Cf kept (R221). -/
def cpl8 (a : Byte) (f : Flags) : Byte × Flags := (a ^^^ 0xFF, { f with n := true, h := true })

/-- SCF's flags (R222). -/
def scfFlags (f : Flags) : Flags := { f with n := false, h := false, c := true }

/-- CCF's flags (R223). -/
def ccfFlags (f : Flags) : Flags := { f with n := false, h := false, c := !f.c }

/-! ### 16-bit arithmetic -/

/-- `ADD HL,rr`: half-carry out of bit 11, carry out of bit 15, Zf kept (R230). -/
def add16 (hl v : BitVec 16) (f : Flags) : BitVec 16 × Flags :=
  let s := hl.toNat + v.toNat
  (BitVec.ofNat 16 s,
    { z := f.z, n := false
      h := decide (hl.toNat % 0x1000 + v.toNat % 0x1000 > 0x0FFF), c := decide (s > 0xFFFF) })

/-- The sum of SP and a signed displacement, with the flags of the unsigned low-byte addition (R183, R233). -/
def addSp8 (sp : BitVec 16) (e : Byte) : BitVec 16 × Flags :=
  (sp + e.signExtend 16,
    { z := false, n := false
      h := decide (sp.toNat % 0x10 + e.toNat % 0x10 > 0xF)
      c := decide (sp.toNat % 0x100 + e.toNat > 0xFF) })

/-! ### Shift functions (R266) -/

/-- The result and the carry-out of a second-table rotate or shift, given the carry flag. -/
def rot8 (op : RotOp) (v : Byte) (cf : Bool) : Byte × Bool :=
  match op with
  | .rlc => (v.extractLsb' 0 7 ++ v.extractLsb' 7 1, v.getLsbD 7)
  | .rrc => (v.extractLsb' 0 1 ++ v.extractLsb' 1 7, v.getLsbD 0)
  | .rl => (v.extractLsb' 0 7 ++ BitVec.ofBool cf, v.getLsbD 7)
  | .rr => (BitVec.ofBool cf ++ v.extractLsb' 1 7, v.getLsbD 0)
  | .sla => (v.extractLsb' 0 7 ++ 0#1, v.getLsbD 7)
  | .sra => (v.extractLsb' 7 1 ++ v.extractLsb' 1 7, v.getLsbD 0)
  | .swap => (v.extractLsb' 0 4 ++ v.extractLsb' 4 4, false)
  | .srl => (0#1 ++ v.extractLsb' 1 7, v.getLsbD 0)

/-- A second-table rotate or shift with its flags: Zf from the result, Nf and Hf 0, Cf the carry-out (R266). -/
def rotFlags8 (op : RotOp) (v : Byte) (f : Flags) : Byte × Flags :=
  let r := rot8 op v f.c
  (r.1, { z := decide (r.1 = 0), n := false, h := false, c := r.2 })

/-- The shift function of an accumulator rotate (R240 to R243). -/
def accRotOp : AccRot → RotOp
  | .rlca => .rlc
  | .rrca => .rrc
  | .rla => .rl
  | .rra => .rr

/-- An accumulator rotate with its flags: Zf is 0 whatever the result (R240 to R243, R266). -/
def accRot8 (op : AccRot) (a : Byte) (f : Flags) : Byte × Flags :=
  let r := rot8 (accRotOp op) a f.c
  (r.1, { z := false, n := false, h := false, c := r.2 })

/-- BIT's flags: Zf the complement of the bit, Nf 0, Hf 1, Cf kept (R260). -/
def bitFlags (b : Fin 8) (v : Byte) (f : Flags) : Flags :=
  { z := !v.getLsbD b.val, n := false, h := true, c := f.c }

/-- RES: the byte with bit `b` clear (R262). -/
def resBit (b : Fin 8) (v : Byte) : Byte := v &&& ~~~(1#8 <<< b.val)

/-- SET: the byte with bit `b` set (R264). -/
def setBit (b : Fin 8) (v : Byte) : Byte := v ||| (1#8 <<< b.val)

end Sys2Proof.Machine
end

