-- ==== Sys2Proof/Machine/Input.lean ====
section
/-! DEFINITION. The input register (64_io_cartridge.md section 1). -/

namespace Sys2Proof.Machine

/-- Line `j`'s level from the selection and the two buttons on it: 0 exactly when a selected group has its button
pressed (R472). -/
def Joypad.line (p : Joypad) (dir aux : Bool) : Bool :=
  (p.sel.getLsbD 0 || !dir) && (p.sel.getLsbD 1 || !aux)

/-- The low nibble (R471, R472). -/
def Joypad.low (p : Joypad) : BitVec 4 :=
  nibble (p.line p.buttons.down p.buttons.start) (p.line p.buttons.up p.buttons.select)
    (p.line p.buttons.left p.buttons.b) (p.line p.buttons.right p.buttons.a)

/-- Whether some line went from 1 to 0 since the last poll (R473). -/
def Joypad.fell (p : Joypad) : Bool := decide (p.prev &&& ~~~p.low ≠ 0)

/-- `Poll()`'s new register state (R473); its interrupt request is `Joypad.fell` of the state before. -/
def Joypad.poll (p : Joypad) : Joypad := { p with prev := p.low }

/-- What a read of 0xFF00 returns (R474). -/
def Joypad.readByte (p : Joypad) : Byte := 0b11#2 ++ p.sel ++ p.low

/-- A write to 0xFF00 (R475). -/
def Joypad.writeByte (p : Joypad) (v : Byte) : Joypad := { p with sel := v.extractLsb' 4 2 }

end Sys2Proof.Machine
end

