-- ==== Sys2Proof/Syntax.lean ====
section
/-! DEFINITION. The instructions: one constructor for each row of spec/opcode_table.json (R130, R131, R135).
A constructor's arguments are the immediates its row leaves open (R120, R132); every other field is fixed by the row. -/

namespace Sys2Proof

/-- The instruction set: the 245 defined entries of the first table, its eleven unused values, then the 256 of the
second table (R133, R135). -/
inductive Instr where
  /-- 0x00, `NOP`, R290. -/
  | nop
  /-- 0x01, `LD BC,nn`, R180. -/
  | ldBcNn (nn : BitVec 16)
  /-- 0x02, `LD (BC),A`, R158. -/
  | ldMemBcA
  /-- 0x03, `INC BC`, R231. -/
  | incBc
  /-- 0x04, `INC B`, R216. -/
  | incB
  /-- 0x05, `DEC B`, R218. -/
  | decB
  /-- 0x06, `LD B,n`, R152. -/
  | ldBN (n : Byte)
  /-- 0x07, `RLCA`, R240. -/
  | rlca
  /-- 0x08, `LD (nn),SP`, R181. -/
  | ldMemNnSp (nn : BitVec 16)
  /-- 0x09, `ADD HL,BC`, R230. -/
  | addHlBc
  /-- 0x0A, `LD A,(BC)`, R156. -/
  | ldAMemBc
  /-- 0x0B, `DEC BC`, R232. -/
  | decBc
  /-- 0x0C, `INC C`, R216. -/
  | incC
  /-- 0x0D, `DEC C`, R218. -/
  | decC
  /-- 0x0E, `LD C,n`, R152. -/
  | ldCN (n : Byte)
  /-- 0x0F, `RRCA`, R241. -/
  | rrca
  /-- 0x10, `STOP`, R292. -/
  | stop
  /-- 0x11, `LD DE,nn`, R180. -/
  | ldDeNn (nn : BitVec 16)
  /-- 0x12, `LD (DE),A`, R159. -/
  | ldMemDeA
  /-- 0x13, `INC DE`, R231. -/
  | incDe
  /-- 0x14, `INC D`, R216. -/
  | incD
  /-- 0x15, `DEC D`, R218. -/
  | decD
  /-- 0x16, `LD D,n`, R152. -/
  | ldDN (n : Byte)
  /-- 0x17, `RLA`, R242. -/
  | rla
  /-- 0x18, `JR e`, R274. -/
  | jrE (e : Byte)
  /-- 0x19, `ADD HL,DE`, R230. -/
  | addHlDe
  /-- 0x1A, `LD A,(DE)`, R157. -/
  | ldAMemDe
  /-- 0x1B, `DEC DE`, R232. -/
  | decDe
  /-- 0x1C, `INC E`, R216. -/
  | incE
  /-- 0x1D, `DEC E`, R218. -/
  | decE
  /-- 0x1E, `LD E,n`, R152. -/
  | ldEN (n : Byte)
  /-- 0x1F, `RRA`, R243. -/
  | rra
  /-- 0x20, `JR NZ,e`, R275. -/
  | jrNzE (e : Byte)
  /-- 0x21, `LD HL,nn`, R180. -/
  | ldHlNn (nn : BitVec 16)
  /-- 0x22, `LD (HL+),A`, R169. -/
  | ldMemHlIncA
  /-- 0x23, `INC HL`, R231. -/
  | incHl
  /-- 0x24, `INC H`, R216. -/
  | incH
  /-- 0x25, `DEC H`, R218. -/
  | decH
  /-- 0x26, `LD H,n`, R152. -/
  | ldHN (n : Byte)
  /-- 0x27, `DAA`, R220. -/
  | daa
  /-- 0x28, `JR Z,e`, R275. -/
  | jrZE (e : Byte)
  /-- 0x29, `ADD HL,HL`, R230. -/
  | addHlHl
  /-- 0x2A, `LD A,(HL+)`, R168. -/
  | ldAMemHlInc
  /-- 0x2B, `DEC HL`, R232. -/
  | decHl
  /-- 0x2C, `INC L`, R216. -/
  | incL
  /-- 0x2D, `DEC L`, R218. -/
  | decL
  /-- 0x2E, `LD L,n`, R152. -/
  | ldLN (n : Byte)
  /-- 0x2F, `CPL`, R221. -/
  | cpl
  /-- 0x30, `JR NC,e`, R275. -/
  | jrNcE (e : Byte)
  /-- 0x31, `LD SP,nn`, R180. -/
  | ldSpNn (nn : BitVec 16)
  /-- 0x32, `LD (HL-),A`, R167. -/
  | ldMemHlDecA
  /-- 0x33, `INC SP`, R231. -/
  | incSp
  /-- 0x34, `INC (HL)`, R217. -/
  | incMemHl
  /-- 0x35, `DEC (HL)`, R219. -/
  | decMemHl
  /-- 0x36, `LD (HL),n`, R155. -/
  | ldMemHlN (n : Byte)
  /-- 0x37, `SCF`, R222. -/
  | scf
  /-- 0x38, `JR C,e`, R275. -/
  | jrCE (e : Byte)
  /-- 0x39, `ADD HL,SP`, R230. -/
  | addHlSp
  /-- 0x3A, `LD A,(HL-)`, R166. -/
  | ldAMemHlDec
  /-- 0x3B, `DEC SP`, R232. -/
  | decSp
  /-- 0x3C, `INC A`, R216. -/
  | incA
  /-- 0x3D, `DEC A`, R218. -/
  | decA
  /-- 0x3E, `LD A,n`, R152. -/
  | ldAN (n : Byte)
  /-- 0x3F, `CCF`, R223. -/
  | ccf
  /-- 0x40, `LD B,B`, R151. -/
  | ldBB
  /-- 0x41, `LD B,C`, R151. -/
  | ldBC
  /-- 0x42, `LD B,D`, R151. -/
  | ldBD
  /-- 0x43, `LD B,E`, R151. -/
  | ldBE
  /-- 0x44, `LD B,H`, R151. -/
  | ldBH
  /-- 0x45, `LD B,L`, R151. -/
  | ldBL
  /-- 0x46, `LD B,(HL)`, R153. -/
  | ldBMemHl
  /-- 0x47, `LD B,A`, R151. -/
  | ldBA
  /-- 0x48, `LD C,B`, R151. -/
  | ldCB
  /-- 0x49, `LD C,C`, R151. -/
  | ldCC
  /-- 0x4A, `LD C,D`, R151. -/
  | ldCD
  /-- 0x4B, `LD C,E`, R151. -/
  | ldCE
  /-- 0x4C, `LD C,H`, R151. -/
  | ldCH
  /-- 0x4D, `LD C,L`, R151. -/
  | ldCL
  /-- 0x4E, `LD C,(HL)`, R153. -/
  | ldCMemHl
  /-- 0x4F, `LD C,A`, R151. -/
  | ldCA
  /-- 0x50, `LD D,B`, R151. -/
  | ldDB
  /-- 0x51, `LD D,C`, R151. -/
  | ldDC
  /-- 0x52, `LD D,D`, R151. -/
  | ldDD
  /-- 0x53, `LD D,E`, R151. -/
  | ldDE
  /-- 0x54, `LD D,H`, R151. -/
  | ldDH
  /-- 0x55, `LD D,L`, R151. -/
  | ldDL
  /-- 0x56, `LD D,(HL)`, R153. -/
  | ldDMemHl
  /-- 0x57, `LD D,A`, R151. -/
  | ldDA
  /-- 0x58, `LD E,B`, R151. -/
  | ldEB
  /-- 0x59, `LD E,C`, R151. -/
  | ldEC
  /-- 0x5A, `LD E,D`, R151. -/
  | ldED
  /-- 0x5B, `LD E,E`, R151. -/
  | ldEE
  /-- 0x5C, `LD E,H`, R151. -/
  | ldEH
  /-- 0x5D, `LD E,L`, R151. -/
  | ldEL
  /-- 0x5E, `LD E,(HL)`, R153. -/
  | ldEMemHl
  /-- 0x5F, `LD E,A`, R151. -/
  | ldEA
  /-- 0x60, `LD H,B`, R151. -/
  | ldHB
  /-- 0x61, `LD H,C`, R151. -/
  | ldHC
  /-- 0x62, `LD H,D`, R151. -/
  | ldHD
  /-- 0x63, `LD H,E`, R151. -/
  | ldHE
  /-- 0x64, `LD H,H`, R151. -/
  | ldHH
  /-- 0x65, `LD H,L`, R151. -/
  | ldHL
  /-- 0x66, `LD H,(HL)`, R153. -/
  | ldHMemHl
  /-- 0x67, `LD H,A`, R151. -/
  | ldHA
  /-- 0x68, `LD L,B`, R151. -/
  | ldLB
  /-- 0x69, `LD L,C`, R151. -/
  | ldLC
  /-- 0x6A, `LD L,D`, R151. -/
  | ldLD
  /-- 0x6B, `LD L,E`, R151. -/
  | ldLE
  /-- 0x6C, `LD L,H`, R151. -/
  | ldLH
  /-- 0x6D, `LD L,L`, R151. -/
  | ldLL
  /-- 0x6E, `LD L,(HL)`, R153. -/
  | ldLMemHl
  /-- 0x6F, `LD L,A`, R151. -/
  | ldLA
  /-- 0x70, `LD (HL),B`, R154. -/
  | ldMemHlB
  /-- 0x71, `LD (HL),C`, R154. -/
  | ldMemHlC
  /-- 0x72, `LD (HL),D`, R154. -/
  | ldMemHlD
  /-- 0x73, `LD (HL),E`, R154. -/
  | ldMemHlE
  /-- 0x74, `LD (HL),H`, R154. -/
  | ldMemHlH
  /-- 0x75, `LD (HL),L`, R154. -/
  | ldMemHlL
  /-- 0x76, `HALT`, R291. -/
  | halt
  /-- 0x77, `LD (HL),A`, R154. -/
  | ldMemHlA
  /-- 0x78, `LD A,B`, R151. -/
  | ldAB
  /-- 0x79, `LD A,C`, R151. -/
  | ldAC
  /-- 0x7A, `LD A,D`, R151. -/
  | ldAD
  /-- 0x7B, `LD A,E`, R151. -/
  | ldAE
  /-- 0x7C, `LD A,H`, R151. -/
  | ldAH
  /-- 0x7D, `LD A,L`, R151. -/
  | ldAL
  /-- 0x7E, `LD A,(HL)`, R153. -/
  | ldAMemHl
  /-- 0x7F, `LD A,A`, R151. -/
  | ldAA
  /-- 0x80, `ADD A,B`, R192. -/
  | addAB
  /-- 0x81, `ADD A,C`, R192. -/
  | addAC
  /-- 0x82, `ADD A,D`, R192. -/
  | addAD
  /-- 0x83, `ADD A,E`, R192. -/
  | addAE
  /-- 0x84, `ADD A,H`, R192. -/
  | addAH
  /-- 0x85, `ADD A,L`, R192. -/
  | addAL
  /-- 0x86, `ADD A,(HL)`, R193. -/
  | addAMemHl
  /-- 0x87, `ADD A,A`, R192. -/
  | addAA
  /-- 0x88, `ADC A,B`, R195. -/
  | adcAB
  /-- 0x89, `ADC A,C`, R195. -/
  | adcAC
  /-- 0x8A, `ADC A,D`, R195. -/
  | adcAD
  /-- 0x8B, `ADC A,E`, R195. -/
  | adcAE
  /-- 0x8C, `ADC A,H`, R195. -/
  | adcAH
  /-- 0x8D, `ADC A,L`, R195. -/
  | adcAL
  /-- 0x8E, `ADC A,(HL)`, R196. -/
  | adcAMemHl
  /-- 0x8F, `ADC A,A`, R195. -/
  | adcAA
  /-- 0x90, `SUB B`, R198. -/
  | subB
  /-- 0x91, `SUB C`, R198. -/
  | subC
  /-- 0x92, `SUB D`, R198. -/
  | subD
  /-- 0x93, `SUB E`, R198. -/
  | subE
  /-- 0x94, `SUB H`, R198. -/
  | subH
  /-- 0x95, `SUB L`, R198. -/
  | subL
  /-- 0x96, `SUB (HL)`, R199. -/
  | subMemHl
  /-- 0x97, `SUB A`, R198. -/
  | subA
  /-- 0x98, `SBC A,B`, R201. -/
  | sbcAB
  /-- 0x99, `SBC A,C`, R201. -/
  | sbcAC
  /-- 0x9A, `SBC A,D`, R201. -/
  | sbcAD
  /-- 0x9B, `SBC A,E`, R201. -/
  | sbcAE
  /-- 0x9C, `SBC A,H`, R201. -/
  | sbcAH
  /-- 0x9D, `SBC A,L`, R201. -/
  | sbcAL
  /-- 0x9E, `SBC A,(HL)`, R202. -/
  | sbcAMemHl
  /-- 0x9F, `SBC A,A`, R201. -/
  | sbcAA
  /-- 0xA0, `AND B`, R204. -/
  | andB
  /-- 0xA1, `AND C`, R204. -/
  | andC
  /-- 0xA2, `AND D`, R204. -/
  | andD
  /-- 0xA3, `AND E`, R204. -/
  | andE
  /-- 0xA4, `AND H`, R204. -/
  | andH
  /-- 0xA5, `AND L`, R204. -/
  | andL
  /-- 0xA6, `AND (HL)`, R205. -/
  | andMemHl
  /-- 0xA7, `AND A`, R204. -/
  | andA
  /-- 0xA8, `XOR B`, R207. -/
  | xorB
  /-- 0xA9, `XOR C`, R207. -/
  | xorC
  /-- 0xAA, `XOR D`, R207. -/
  | xorD
  /-- 0xAB, `XOR E`, R207. -/
  | xorE
  /-- 0xAC, `XOR H`, R207. -/
  | xorH
  /-- 0xAD, `XOR L`, R207. -/
  | xorL
  /-- 0xAE, `XOR (HL)`, R208. -/
  | xorMemHl
  /-- 0xAF, `XOR A`, R207. -/
  | xorA
  /-- 0xB0, `OR B`, R210. -/
  | orB
  /-- 0xB1, `OR C`, R210. -/
  | orC
  /-- 0xB2, `OR D`, R210. -/
  | orD
  /-- 0xB3, `OR E`, R210. -/
  | orE
  /-- 0xB4, `OR H`, R210. -/
  | orH
  /-- 0xB5, `OR L`, R210. -/
  | orL
  /-- 0xB6, `OR (HL)`, R211. -/
  | orMemHl
  /-- 0xB7, `OR A`, R210. -/
  | orA
  /-- 0xB8, `CP B`, R213. -/
  | cpB
  /-- 0xB9, `CP C`, R213. -/
  | cpC
  /-- 0xBA, `CP D`, R213. -/
  | cpD
  /-- 0xBB, `CP E`, R213. -/
  | cpE
  /-- 0xBC, `CP H`, R213. -/
  | cpH
  /-- 0xBD, `CP L`, R213. -/
  | cpL
  /-- 0xBE, `CP (HL)`, R214. -/
  | cpMemHl
  /-- 0xBF, `CP A`, R213. -/
  | cpA
  /-- 0xC0, `RET NZ`, R279. -/
  | retNz
  /-- 0xC1, `POP BC`, R185. -/
  | popBc
  /-- 0xC2, `JP NZ,nn`, R273. -/
  | jpNzNn (nn : BitVec 16)
  /-- 0xC3, `JP nn`, R271. -/
  | jpNn (nn : BitVec 16)
  /-- 0xC4, `CALL NZ,nn`, R277. -/
  | callNzNn (nn : BitVec 16)
  /-- 0xC5, `PUSH BC`, R184. -/
  | pushBc
  /-- 0xC6, `ADD A,n`, R194. -/
  | addAN (n : Byte)
  /-- 0xC7, `RST 0x00`, R283. -/
  | rst00
  /-- 0xC8, `RET Z`, R279. -/
  | retZ
  /-- 0xC9, `RET`, R278. -/
  | ret
  /-- 0xCA, `JP Z,nn`, R273. -/
  | jpZNn (nn : BitVec 16)
  /-- 0xCB, `PREFIX CB`, R296. -/
  | prefixCb
  /-- 0xCC, `CALL Z,nn`, R277. -/
  | callZNn (nn : BitVec 16)
  /-- 0xCD, `CALL nn`, R276. -/
  | callNn (nn : BitVec 16)
  /-- 0xCE, `ADC A,n`, R197. -/
  | adcAN (n : Byte)
  /-- 0xCF, `RST 0x08`, R283. -/
  | rst08
  /-- 0xD0, `RET NC`, R279. -/
  | retNc
  /-- 0xD1, `POP DE`, R185. -/
  | popDe
  /-- 0xD2, `JP NC,nn`, R273. -/
  | jpNcNn (nn : BitVec 16)
  /-- 0xD4, `CALL NC,nn`, R277. -/
  | callNcNn (nn : BitVec 16)
  /-- 0xD5, `PUSH DE`, R184. -/
  | pushDe
  /-- 0xD6, `SUB n`, R200. -/
  | subN (n : Byte)
  /-- 0xD7, `RST 0x10`, R283. -/
  | rst10
  /-- 0xD8, `RET C`, R279. -/
  | retC
  /-- 0xD9, `RETI`, R280. -/
  | reti
  /-- 0xDA, `JP C,nn`, R273. -/
  | jpCNn (nn : BitVec 16)
  /-- 0xDC, `CALL C,nn`, R277. -/
  | callCNn (nn : BitVec 16)
  /-- 0xDE, `SBC A,n`, R203. -/
  | sbcAN (n : Byte)
  /-- 0xDF, `RST 0x18`, R283. -/
  | rst18
  /-- 0xE0, `LDH (n),A`, R165. -/
  | ldhMemNA (n : Byte)
  /-- 0xE1, `POP HL`, R185. -/
  | popHl
  /-- 0xE2, `LDH (C),A`, R163. -/
  | ldhMemCA
  /-- 0xE5, `PUSH HL`, R184. -/
  | pushHl
  /-- 0xE6, `AND n`, R206. -/
  | andN (n : Byte)
  /-- 0xE7, `RST 0x20`, R283. -/
  | rst20
  /-- 0xE8, `ADD SP,e`, R233. -/
  | addSpE (e : Byte)
  /-- 0xE9, `JP HL`, R272. -/
  | jpHl
  /-- 0xEA, `LD (nn),A`, R161. -/
  | ldMemNnA (nn : BitVec 16)
  /-- 0xEE, `XOR n`, R209. -/
  | xorN (n : Byte)
  /-- 0xEF, `RST 0x28`, R283. -/
  | rst28
  /-- 0xF0, `LDH A,(n)`, R164. -/
  | ldhAMemN (n : Byte)
  /-- 0xF1, `POP AF`, R185. -/
  | popAf
  /-- 0xF2, `LDH A,(C)`, R162. -/
  | ldhAMemC
  /-- 0xF3, `DI`, R293. -/
  | di
  /-- 0xF5, `PUSH AF`, R184. -/
  | pushAf
  /-- 0xF6, `OR n`, R212. -/
  | orN (n : Byte)
  /-- 0xF7, `RST 0x30`, R283. -/
  | rst30
  /-- 0xF8, `LD HL,SP+e`, R183. -/
  | ldHlSpE (e : Byte)
  /-- 0xF9, `LD SP,HL`, R182. -/
  | ldSpHl
  /-- 0xFA, `LD A,(nn)`, R160. -/
  | ldAMemNn (nn : BitVec 16)
  /-- 0xFB, `EI`, R294. -/
  | ei
  /-- 0xFE, `CP n`, R215. -/
  | cpN (n : Byte)
  /-- 0xFF, `RST 0x38`, R283. -/
  | rst38
  -- the eleven unused values of the first table (R133)
  /-- 0xD3, `ILLEGAL_D3`, R297. -/
  | illegalD3
  /-- 0xDB, `ILLEGAL_DB`, R297. -/
  | illegalDB
  /-- 0xDD, `ILLEGAL_DD`, R297. -/
  | illegalDD
  /-- 0xE3, `ILLEGAL_E3`, R297. -/
  | illegalE3
  /-- 0xE4, `ILLEGAL_E4`, R297. -/
  | illegalE4
  /-- 0xEB, `ILLEGAL_EB`, R297. -/
  | illegalEB
  /-- 0xEC, `ILLEGAL_EC`, R297. -/
  | illegalEC
  /-- 0xED, `ILLEGAL_ED`, R297. -/
  | illegalED
  /-- 0xF4, `ILLEGAL_F4`, R297. -/
  | illegalF4
  /-- 0xFC, `ILLEGAL_FC`, R297. -/
  | illegalFC
  /-- 0xFD, `ILLEGAL_FD`, R297. -/
  | illegalFD
  -- second table, reached through the prefix 0xCB (R131)
  /-- 0xCB 0x00, `RLC B`, R244. -/
  | rlcB
  /-- 0xCB 0x01, `RLC C`, R244. -/
  | rlcC
  /-- 0xCB 0x02, `RLC D`, R244. -/
  | rlcD
  /-- 0xCB 0x03, `RLC E`, R244. -/
  | rlcE
  /-- 0xCB 0x04, `RLC H`, R244. -/
  | rlcH
  /-- 0xCB 0x05, `RLC L`, R244. -/
  | rlcL
  /-- 0xCB 0x06, `RLC (HL)`, R245. -/
  | rlcMemHl
  /-- 0xCB 0x07, `RLC A`, R244. -/
  | rlcA
  /-- 0xCB 0x08, `RRC B`, R246. -/
  | rrcB
  /-- 0xCB 0x09, `RRC C`, R246. -/
  | rrcC
  /-- 0xCB 0x0A, `RRC D`, R246. -/
  | rrcD
  /-- 0xCB 0x0B, `RRC E`, R246. -/
  | rrcE
  /-- 0xCB 0x0C, `RRC H`, R246. -/
  | rrcH
  /-- 0xCB 0x0D, `RRC L`, R246. -/
  | rrcL
  /-- 0xCB 0x0E, `RRC (HL)`, R247. -/
  | rrcMemHl
  /-- 0xCB 0x0F, `RRC A`, R246. -/
  | rrcA
  /-- 0xCB 0x10, `RL B`, R248. -/
  | rlB
  /-- 0xCB 0x11, `RL C`, R248. -/
  | rlC
  /-- 0xCB 0x12, `RL D`, R248. -/
  | rlD
  /-- 0xCB 0x13, `RL E`, R248. -/
  | rlE
  /-- 0xCB 0x14, `RL H`, R248. -/
  | rlH
  /-- 0xCB 0x15, `RL L`, R248. -/
  | rlL
  /-- 0xCB 0x16, `RL (HL)`, R249. -/
  | rlMemHl
  /-- 0xCB 0x17, `RL A`, R248. -/
  | rlA
  /-- 0xCB 0x18, `RR B`, R250. -/
  | rrB
  /-- 0xCB 0x19, `RR C`, R250. -/
  | rrC
  /-- 0xCB 0x1A, `RR D`, R250. -/
  | rrD
  /-- 0xCB 0x1B, `RR E`, R250. -/
  | rrE
  /-- 0xCB 0x1C, `RR H`, R250. -/
  | rrH
  /-- 0xCB 0x1D, `RR L`, R250. -/
  | rrL
  /-- 0xCB 0x1E, `RR (HL)`, R251. -/
  | rrMemHl
  /-- 0xCB 0x1F, `RR A`, R250. -/
  | rrA
  /-- 0xCB 0x20, `SLA B`, R252. -/
  | slaB
  /-- 0xCB 0x21, `SLA C`, R252. -/
  | slaC
  /-- 0xCB 0x22, `SLA D`, R252. -/
  | slaD
  /-- 0xCB 0x23, `SLA E`, R252. -/
  | slaE
  /-- 0xCB 0x24, `SLA H`, R252. -/
  | slaH
  /-- 0xCB 0x25, `SLA L`, R252. -/
  | slaL
  /-- 0xCB 0x26, `SLA (HL)`, R253. -/
  | slaMemHl
  /-- 0xCB 0x27, `SLA A`, R252. -/
  | slaA
  /-- 0xCB 0x28, `SRA B`, R254. -/
  | sraB
  /-- 0xCB 0x29, `SRA C`, R254. -/
  | sraC
  /-- 0xCB 0x2A, `SRA D`, R254. -/
  | sraD
  /-- 0xCB 0x2B, `SRA E`, R254. -/
  | sraE
  /-- 0xCB 0x2C, `SRA H`, R254. -/
  | sraH
  /-- 0xCB 0x2D, `SRA L`, R254. -/
  | sraL
  /-- 0xCB 0x2E, `SRA (HL)`, R255. -/
  | sraMemHl
  /-- 0xCB 0x2F, `SRA A`, R254. -/
  | sraA
  /-- 0xCB 0x30, `SWAP B`, R256. -/
  | swapB
  /-- 0xCB 0x31, `SWAP C`, R256. -/
  | swapC
  /-- 0xCB 0x32, `SWAP D`, R256. -/
  | swapD
  /-- 0xCB 0x33, `SWAP E`, R256. -/
  | swapE
  /-- 0xCB 0x34, `SWAP H`, R256. -/
  | swapH
  /-- 0xCB 0x35, `SWAP L`, R256. -/
  | swapL
  /-- 0xCB 0x36, `SWAP (HL)`, R257. -/
  | swapMemHl
  /-- 0xCB 0x37, `SWAP A`, R256. -/
  | swapA
  /-- 0xCB 0x38, `SRL B`, R258. -/
  | srlB
  /-- 0xCB 0x39, `SRL C`, R258. -/
  | srlC
  /-- 0xCB 0x3A, `SRL D`, R258. -/
  | srlD
  /-- 0xCB 0x3B, `SRL E`, R258. -/
  | srlE
  /-- 0xCB 0x3C, `SRL H`, R258. -/
  | srlH
  /-- 0xCB 0x3D, `SRL L`, R258. -/
  | srlL
  /-- 0xCB 0x3E, `SRL (HL)`, R259. -/
  | srlMemHl
  /-- 0xCB 0x3F, `SRL A`, R258. -/
  | srlA
  /-- 0xCB 0x40, `BIT 0,B`, R260. -/
  | bit0B
  /-- 0xCB 0x41, `BIT 0,C`, R260. -/
  | bit0C
  /-- 0xCB 0x42, `BIT 0,D`, R260. -/
  | bit0D
  /-- 0xCB 0x43, `BIT 0,E`, R260. -/
  | bit0E
  /-- 0xCB 0x44, `BIT 0,H`, R260. -/
  | bit0H
  /-- 0xCB 0x45, `BIT 0,L`, R260. -/
  | bit0L
  /-- 0xCB 0x46, `BIT 0,(HL)`, R261. -/
  | bit0MemHl
  /-- 0xCB 0x47, `BIT 0,A`, R260. -/
  | bit0A
  /-- 0xCB 0x48, `BIT 1,B`, R260. -/
  | bit1B
  /-- 0xCB 0x49, `BIT 1,C`, R260. -/
  | bit1C
  /-- 0xCB 0x4A, `BIT 1,D`, R260. -/
  | bit1D
  /-- 0xCB 0x4B, `BIT 1,E`, R260. -/
  | bit1E
  /-- 0xCB 0x4C, `BIT 1,H`, R260. -/
  | bit1H
  /-- 0xCB 0x4D, `BIT 1,L`, R260. -/
  | bit1L
  /-- 0xCB 0x4E, `BIT 1,(HL)`, R261. -/
  | bit1MemHl
  /-- 0xCB 0x4F, `BIT 1,A`, R260. -/
  | bit1A
  /-- 0xCB 0x50, `BIT 2,B`, R260. -/
  | bit2B
  /-- 0xCB 0x51, `BIT 2,C`, R260. -/
  | bit2C
  /-- 0xCB 0x52, `BIT 2,D`, R260. -/
  | bit2D
  /-- 0xCB 0x53, `BIT 2,E`, R260. -/
  | bit2E
  /-- 0xCB 0x54, `BIT 2,H`, R260. -/
  | bit2H
  /-- 0xCB 0x55, `BIT 2,L`, R260. -/
  | bit2L
  /-- 0xCB 0x56, `BIT 2,(HL)`, R261. -/
  | bit2MemHl
  /-- 0xCB 0x57, `BIT 2,A`, R260. -/
  | bit2A
  /-- 0xCB 0x58, `BIT 3,B`, R260. -/
  | bit3B
  /-- 0xCB 0x59, `BIT 3,C`, R260. -/
  | bit3C
  /-- 0xCB 0x5A, `BIT 3,D`, R260. -/
  | bit3D
  /-- 0xCB 0x5B, `BIT 3,E`, R260. -/
  | bit3E
  /-- 0xCB 0x5C, `BIT 3,H`, R260. -/
  | bit3H
  /-- 0xCB 0x5D, `BIT 3,L`, R260. -/
  | bit3L
  /-- 0xCB 0x5E, `BIT 3,(HL)`, R261. -/
  | bit3MemHl
  /-- 0xCB 0x5F, `BIT 3,A`, R260. -/
  | bit3A
  /-- 0xCB 0x60, `BIT 4,B`, R260. -/
  | bit4B
  /-- 0xCB 0x61, `BIT 4,C`, R260. -/
  | bit4C
  /-- 0xCB 0x62, `BIT 4,D`, R260. -/
  | bit4D
  /-- 0xCB 0x63, `BIT 4,E`, R260. -/
  | bit4E
  /-- 0xCB 0x64, `BIT 4,H`, R260. -/
  | bit4H
  /-- 0xCB 0x65, `BIT 4,L`, R260. -/
  | bit4L
  /-- 0xCB 0x66, `BIT 4,(HL)`, R261. -/
  | bit4MemHl
  /-- 0xCB 0x67, `BIT 4,A`, R260. -/
  | bit4A
  /-- 0xCB 0x68, `BIT 5,B`, R260. -/
  | bit5B
  /-- 0xCB 0x69, `BIT 5,C`, R260. -/
  | bit5C
  /-- 0xCB 0x6A, `BIT 5,D`, R260. -/
  | bit5D
  /-- 0xCB 0x6B, `BIT 5,E`, R260. -/
  | bit5E
  /-- 0xCB 0x6C, `BIT 5,H`, R260. -/
  | bit5H
  /-- 0xCB 0x6D, `BIT 5,L`, R260. -/
  | bit5L
  /-- 0xCB 0x6E, `BIT 5,(HL)`, R261. -/
  | bit5MemHl
  /-- 0xCB 0x6F, `BIT 5,A`, R260. -/
  | bit5A
  /-- 0xCB 0x70, `BIT 6,B`, R260. -/
  | bit6B
  /-- 0xCB 0x71, `BIT 6,C`, R260. -/
  | bit6C
  /-- 0xCB 0x72, `BIT 6,D`, R260. -/
  | bit6D
  /-- 0xCB 0x73, `BIT 6,E`, R260. -/
  | bit6E
  /-- 0xCB 0x74, `BIT 6,H`, R260. -/
  | bit6H
  /-- 0xCB 0x75, `BIT 6,L`, R260. -/
  | bit6L
  /-- 0xCB 0x76, `BIT 6,(HL)`, R261. -/
  | bit6MemHl
  /-- 0xCB 0x77, `BIT 6,A`, R260. -/
  | bit6A
  /-- 0xCB 0x78, `BIT 7,B`, R260. -/
  | bit7B
  /-- 0xCB 0x79, `BIT 7,C`, R260. -/
  | bit7C
  /-- 0xCB 0x7A, `BIT 7,D`, R260. -/
  | bit7D
  /-- 0xCB 0x7B, `BIT 7,E`, R260. -/
  | bit7E
  /-- 0xCB 0x7C, `BIT 7,H`, R260. -/
  | bit7H
  /-- 0xCB 0x7D, `BIT 7,L`, R260. -/
  | bit7L
  /-- 0xCB 0x7E, `BIT 7,(HL)`, R261. -/
  | bit7MemHl
  /-- 0xCB 0x7F, `BIT 7,A`, R260. -/
  | bit7A
  /-- 0xCB 0x80, `RES 0,B`, R262. -/
  | res0B
  /-- 0xCB 0x81, `RES 0,C`, R262. -/
  | res0C
  /-- 0xCB 0x82, `RES 0,D`, R262. -/
  | res0D
  /-- 0xCB 0x83, `RES 0,E`, R262. -/
  | res0E
  /-- 0xCB 0x84, `RES 0,H`, R262. -/
  | res0H
  /-- 0xCB 0x85, `RES 0,L`, R262. -/
  | res0L
  /-- 0xCB 0x86, `RES 0,(HL)`, R263. -/
  | res0MemHl
  /-- 0xCB 0x87, `RES 0,A`, R262. -/
  | res0A
  /-- 0xCB 0x88, `RES 1,B`, R262. -/
  | res1B
  /-- 0xCB 0x89, `RES 1,C`, R262. -/
  | res1C
  /-- 0xCB 0x8A, `RES 1,D`, R262. -/
  | res1D
  /-- 0xCB 0x8B, `RES 1,E`, R262. -/
  | res1E
  /-- 0xCB 0x8C, `RES 1,H`, R262. -/
  | res1H
  /-- 0xCB 0x8D, `RES 1,L`, R262. -/
  | res1L
  /-- 0xCB 0x8E, `RES 1,(HL)`, R263. -/
  | res1MemHl
  /-- 0xCB 0x8F, `RES 1,A`, R262. -/
  | res1A
  /-- 0xCB 0x90, `RES 2,B`, R262. -/
  | res2B
  /-- 0xCB 0x91, `RES 2,C`, R262. -/
  | res2C
  /-- 0xCB 0x92, `RES 2,D`, R262. -/
  | res2D
  /-- 0xCB 0x93, `RES 2,E`, R262. -/
  | res2E
  /-- 0xCB 0x94, `RES 2,H`, R262. -/
  | res2H
  /-- 0xCB 0x95, `RES 2,L`, R262. -/
  | res2L
  /-- 0xCB 0x96, `RES 2,(HL)`, R263. -/
  | res2MemHl
  /-- 0xCB 0x97, `RES 2,A`, R262. -/
  | res2A
  /-- 0xCB 0x98, `RES 3,B`, R262. -/
  | res3B
  /-- 0xCB 0x99, `RES 3,C`, R262. -/
  | res3C
  /-- 0xCB 0x9A, `RES 3,D`, R262. -/
  | res3D
  /-- 0xCB 0x9B, `RES 3,E`, R262. -/
  | res3E
  /-- 0xCB 0x9C, `RES 3,H`, R262. -/
  | res3H
  /-- 0xCB 0x9D, `RES 3,L`, R262. -/
  | res3L
  /-- 0xCB 0x9E, `RES 3,(HL)`, R263. -/
  | res3MemHl
  /-- 0xCB 0x9F, `RES 3,A`, R262. -/
  | res3A
  /-- 0xCB 0xA0, `RES 4,B`, R262. -/
  | res4B
  /-- 0xCB 0xA1, `RES 4,C`, R262. -/
  | res4C
  /-- 0xCB 0xA2, `RES 4,D`, R262. -/
  | res4D
  /-- 0xCB 0xA3, `RES 4,E`, R262. -/
  | res4E
  /-- 0xCB 0xA4, `RES 4,H`, R262. -/
  | res4H
  /-- 0xCB 0xA5, `RES 4,L`, R262. -/
  | res4L
  /-- 0xCB 0xA6, `RES 4,(HL)`, R263. -/
  | res4MemHl
  /-- 0xCB 0xA7, `RES 4,A`, R262. -/
  | res4A
  /-- 0xCB 0xA8, `RES 5,B`, R262. -/
  | res5B
  /-- 0xCB 0xA9, `RES 5,C`, R262. -/
  | res5C
  /-- 0xCB 0xAA, `RES 5,D`, R262. -/
  | res5D
  /-- 0xCB 0xAB, `RES 5,E`, R262. -/
  | res5E
  /-- 0xCB 0xAC, `RES 5,H`, R262. -/
  | res5H
  /-- 0xCB 0xAD, `RES 5,L`, R262. -/
  | res5L
  /-- 0xCB 0xAE, `RES 5,(HL)`, R263. -/
  | res5MemHl
  /-- 0xCB 0xAF, `RES 5,A`, R262. -/
  | res5A
  /-- 0xCB 0xB0, `RES 6,B`, R262. -/
  | res6B
  /-- 0xCB 0xB1, `RES 6,C`, R262. -/
  | res6C
  /-- 0xCB 0xB2, `RES 6,D`, R262. -/
  | res6D
  /-- 0xCB 0xB3, `RES 6,E`, R262. -/
  | res6E
  /-- 0xCB 0xB4, `RES 6,H`, R262. -/
  | res6H
  /-- 0xCB 0xB5, `RES 6,L`, R262. -/
  | res6L
  /-- 0xCB 0xB6, `RES 6,(HL)`, R263. -/
  | res6MemHl
  /-- 0xCB 0xB7, `RES 6,A`, R262. -/
  | res6A
  /-- 0xCB 0xB8, `RES 7,B`, R262. -/
  | res7B
  /-- 0xCB 0xB9, `RES 7,C`, R262. -/
  | res7C
  /-- 0xCB 0xBA, `RES 7,D`, R262. -/
  | res7D
  /-- 0xCB 0xBB, `RES 7,E`, R262. -/
  | res7E
  /-- 0xCB 0xBC, `RES 7,H`, R262. -/
  | res7H
  /-- 0xCB 0xBD, `RES 7,L`, R262. -/
  | res7L
  /-- 0xCB 0xBE, `RES 7,(HL)`, R263. -/
  | res7MemHl
  /-- 0xCB 0xBF, `RES 7,A`, R262. -/
  | res7A
  /-- 0xCB 0xC0, `SET 0,B`, R264. -/
  | set0B
  /-- 0xCB 0xC1, `SET 0,C`, R264. -/
  | set0C
  /-- 0xCB 0xC2, `SET 0,D`, R264. -/
  | set0D
  /-- 0xCB 0xC3, `SET 0,E`, R264. -/
  | set0E
  /-- 0xCB 0xC4, `SET 0,H`, R264. -/
  | set0H
  /-- 0xCB 0xC5, `SET 0,L`, R264. -/
  | set0L
  /-- 0xCB 0xC6, `SET 0,(HL)`, R265. -/
  | set0MemHl
  /-- 0xCB 0xC7, `SET 0,A`, R264. -/
  | set0A
  /-- 0xCB 0xC8, `SET 1,B`, R264. -/
  | set1B
  /-- 0xCB 0xC9, `SET 1,C`, R264. -/
  | set1C
  /-- 0xCB 0xCA, `SET 1,D`, R264. -/
  | set1D
  /-- 0xCB 0xCB, `SET 1,E`, R264. -/
  | set1E
  /-- 0xCB 0xCC, `SET 1,H`, R264. -/
  | set1H
  /-- 0xCB 0xCD, `SET 1,L`, R264. -/
  | set1L
  /-- 0xCB 0xCE, `SET 1,(HL)`, R265. -/
  | set1MemHl
  /-- 0xCB 0xCF, `SET 1,A`, R264. -/
  | set1A
  /-- 0xCB 0xD0, `SET 2,B`, R264. -/
  | set2B
  /-- 0xCB 0xD1, `SET 2,C`, R264. -/
  | set2C
  /-- 0xCB 0xD2, `SET 2,D`, R264. -/
  | set2D
  /-- 0xCB 0xD3, `SET 2,E`, R264. -/
  | set2E
  /-- 0xCB 0xD4, `SET 2,H`, R264. -/
  | set2H
  /-- 0xCB 0xD5, `SET 2,L`, R264. -/
  | set2L
  /-- 0xCB 0xD6, `SET 2,(HL)`, R265. -/
  | set2MemHl
  /-- 0xCB 0xD7, `SET 2,A`, R264. -/
  | set2A
  /-- 0xCB 0xD8, `SET 3,B`, R264. -/
  | set3B
  /-- 0xCB 0xD9, `SET 3,C`, R264. -/
  | set3C
  /-- 0xCB 0xDA, `SET 3,D`, R264. -/
  | set3D
  /-- 0xCB 0xDB, `SET 3,E`, R264. -/
  | set3E
  /-- 0xCB 0xDC, `SET 3,H`, R264. -/
  | set3H
  /-- 0xCB 0xDD, `SET 3,L`, R264. -/
  | set3L
  /-- 0xCB 0xDE, `SET 3,(HL)`, R265. -/
  | set3MemHl
  /-- 0xCB 0xDF, `SET 3,A`, R264. -/
  | set3A
  /-- 0xCB 0xE0, `SET 4,B`, R264. -/
  | set4B
  /-- 0xCB 0xE1, `SET 4,C`, R264. -/
  | set4C
  /-- 0xCB 0xE2, `SET 4,D`, R264. -/
  | set4D
  /-- 0xCB 0xE3, `SET 4,E`, R264. -/
  | set4E
  /-- 0xCB 0xE4, `SET 4,H`, R264. -/
  | set4H
  /-- 0xCB 0xE5, `SET 4,L`, R264. -/
  | set4L
  /-- 0xCB 0xE6, `SET 4,(HL)`, R265. -/
  | set4MemHl
  /-- 0xCB 0xE7, `SET 4,A`, R264. -/
  | set4A
  /-- 0xCB 0xE8, `SET 5,B`, R264. -/
  | set5B
  /-- 0xCB 0xE9, `SET 5,C`, R264. -/
  | set5C
  /-- 0xCB 0xEA, `SET 5,D`, R264. -/
  | set5D
  /-- 0xCB 0xEB, `SET 5,E`, R264. -/
  | set5E
  /-- 0xCB 0xEC, `SET 5,H`, R264. -/
  | set5H
  /-- 0xCB 0xED, `SET 5,L`, R264. -/
  | set5L
  /-- 0xCB 0xEE, `SET 5,(HL)`, R265. -/
  | set5MemHl
  /-- 0xCB 0xEF, `SET 5,A`, R264. -/
  | set5A
  /-- 0xCB 0xF0, `SET 6,B`, R264. -/
  | set6B
  /-- 0xCB 0xF1, `SET 6,C`, R264. -/
  | set6C
  /-- 0xCB 0xF2, `SET 6,D`, R264. -/
  | set6D
  /-- 0xCB 0xF3, `SET 6,E`, R264. -/
  | set6E
  /-- 0xCB 0xF4, `SET 6,H`, R264. -/
  | set6H
  /-- 0xCB 0xF5, `SET 6,L`, R264. -/
  | set6L
  /-- 0xCB 0xF6, `SET 6,(HL)`, R265. -/
  | set6MemHl
  /-- 0xCB 0xF7, `SET 6,A`, R264. -/
  | set6A
  /-- 0xCB 0xF8, `SET 7,B`, R264. -/
  | set7B
  /-- 0xCB 0xF9, `SET 7,C`, R264. -/
  | set7C
  /-- 0xCB 0xFA, `SET 7,D`, R264. -/
  | set7D
  /-- 0xCB 0xFB, `SET 7,E`, R264. -/
  | set7E
  /-- 0xCB 0xFC, `SET 7,H`, R264. -/
  | set7H
  /-- 0xCB 0xFD, `SET 7,L`, R264. -/
  | set7L
  /-- 0xCB 0xFE, `SET 7,(HL)`, R265. -/
  | set7MemHl
  /-- 0xCB 0xFF, `SET 7,A`, R264. -/
  | set7A
  deriving DecidableEq, Repr

end Sys2Proof
end

