-- ==== Sys2Proof/WellFormed.lean ====
section
/-! DEFINITION. Well-formed instructions. -/

namespace Sys2Proof

/-- Well-formed instructions. An instruction's immediates are bit vectors of the very widths its format gives
(R120, R132), every value of them is legal and there are no reserved encodings (R134), so the types already
carry every check and no instruction term is ill-formed. -/
def Instr.wellFormed (_ : Instr) : Bool := true

end Sys2Proof
end

