-- ==== Sys2Proof/Decode.lean ====
section
/-! DEFINITION. The decoder, written as the two grids of the spec (R130, R131), and after it the encoder,
written from the opcode value each instruction's rule gives. -/

namespace Sys2Proof

/-! ### Byte order and sign extension (R8, R86) -/

/-- `hi:lo`, the 16-bit value of two bytes (R7, R86). -/
def concat8 (hi lo : Byte) : BitVec 16 := hi ++ lo

/-- Bits 15:8. -/
def hiByte (v : BitVec 16) : Byte := v.extractLsb' 8 8

/-- Bits 7:0. -/
def loByte (v : BitVec 16) : Byte := v.extractLsb' 0 8

/-- `sext_16` (R8). -/
def sext16 (e : Byte) : BitVec 16 := e.signExtend 16

/-- `zext_16` (R8). -/
def zext16 (n : Byte) : BitVec 16 := n.setWidth 16

/-! ### The tables -/

/-- One table entry: the format of R120 with the instruction it makes of its immediate bytes.
`skip1` is the format of STOP, whose second byte is stepped over and never read (R134). -/
inductive Entry where
  /-- Format `OP`. -/
  | op (i : Instr)
  /-- STOP's `OP_N8`, whose byte is not read. -/
  | skip1 (i : Instr)
  /-- Format `OP_N8` or `OP_E8`. -/
  | imm8 (f : Byte → Instr)
  /-- Format `OP_N16`. -/
  | imm16 (f : BitVec 16 → Instr)

/-- Row 0x of the first table (R130). -/
def firstRow0 : List Entry :=
  [.op .nop, .imm16 .ldBcNn, .op .ldMemBcA, .op .incBc, .op .incB, .op .decB, .imm8 .ldBN,
   .op .rlca, .imm16 .ldMemNnSp, .op .addHlBc, .op .ldAMemBc, .op .decBc, .op .incC, .op .decC,
   .imm8 .ldCN, .op .rrca]

/-- Row 1x of the first table (R130). -/
def firstRow1 : List Entry :=
  [.skip1 .stop, .imm16 .ldDeNn, .op .ldMemDeA, .op .incDe, .op .incD, .op .decD, .imm8 .ldDN,
   .op .rla, .imm8 .jrE, .op .addHlDe, .op .ldAMemDe, .op .decDe, .op .incE, .op .decE,
   .imm8 .ldEN, .op .rra]

/-- Row 2x of the first table (R130). -/
def firstRow2 : List Entry :=
  [.imm8 .jrNzE, .imm16 .ldHlNn, .op .ldMemHlIncA, .op .incHl, .op .incH, .op .decH, .imm8 .ldHN,
   .op .daa, .imm8 .jrZE, .op .addHlHl, .op .ldAMemHlInc, .op .decHl, .op .incL, .op .decL,
   .imm8 .ldLN, .op .cpl]

/-- Row 3x of the first table (R130). -/
def firstRow3 : List Entry :=
  [.imm8 .jrNcE, .imm16 .ldSpNn, .op .ldMemHlDecA, .op .incSp, .op .incMemHl, .op .decMemHl,
   .imm8 .ldMemHlN, .op .scf, .imm8 .jrCE, .op .addHlSp, .op .ldAMemHlDec, .op .decSp, .op .incA,
   .op .decA, .imm8 .ldAN, .op .ccf]

/-- Row 4x of the first table (R130). -/
def firstRow4 : List Entry :=
  [.op .ldBB, .op .ldBC, .op .ldBD, .op .ldBE, .op .ldBH, .op .ldBL, .op .ldBMemHl, .op .ldBA,
   .op .ldCB, .op .ldCC, .op .ldCD, .op .ldCE, .op .ldCH, .op .ldCL, .op .ldCMemHl, .op .ldCA]

/-- Row 5x of the first table (R130). -/
def firstRow5 : List Entry :=
  [.op .ldDB, .op .ldDC, .op .ldDD, .op .ldDE, .op .ldDH, .op .ldDL, .op .ldDMemHl, .op .ldDA,
   .op .ldEB, .op .ldEC, .op .ldED, .op .ldEE, .op .ldEH, .op .ldEL, .op .ldEMemHl, .op .ldEA]

/-- Row 6x of the first table (R130). -/
def firstRow6 : List Entry :=
  [.op .ldHB, .op .ldHC, .op .ldHD, .op .ldHE, .op .ldHH, .op .ldHL, .op .ldHMemHl, .op .ldHA,
   .op .ldLB, .op .ldLC, .op .ldLD, .op .ldLE, .op .ldLH, .op .ldLL, .op .ldLMemHl, .op .ldLA]

/-- Row 7x of the first table (R130). -/
def firstRow7 : List Entry :=
  [.op .ldMemHlB, .op .ldMemHlC, .op .ldMemHlD, .op .ldMemHlE, .op .ldMemHlH, .op .ldMemHlL,
   .op .halt, .op .ldMemHlA, .op .ldAB, .op .ldAC, .op .ldAD, .op .ldAE, .op .ldAH, .op .ldAL,
   .op .ldAMemHl, .op .ldAA]

/-- Row 8x of the first table (R130). -/
def firstRow8 : List Entry :=
  [.op .addAB, .op .addAC, .op .addAD, .op .addAE, .op .addAH, .op .addAL, .op .addAMemHl,
   .op .addAA, .op .adcAB, .op .adcAC, .op .adcAD, .op .adcAE, .op .adcAH, .op .adcAL,
   .op .adcAMemHl, .op .adcAA]

/-- Row 9x of the first table (R130). -/
def firstRow9 : List Entry :=
  [.op .subB, .op .subC, .op .subD, .op .subE, .op .subH, .op .subL, .op .subMemHl, .op .subA,
   .op .sbcAB, .op .sbcAC, .op .sbcAD, .op .sbcAE, .op .sbcAH, .op .sbcAL, .op .sbcAMemHl,
   .op .sbcAA]

/-- Row Ax of the first table (R130). -/
def firstRowA : List Entry :=
  [.op .andB, .op .andC, .op .andD, .op .andE, .op .andH, .op .andL, .op .andMemHl, .op .andA,
   .op .xorB, .op .xorC, .op .xorD, .op .xorE, .op .xorH, .op .xorL, .op .xorMemHl, .op .xorA]

/-- Row Bx of the first table (R130). -/
def firstRowB : List Entry :=
  [.op .orB, .op .orC, .op .orD, .op .orE, .op .orH, .op .orL, .op .orMemHl, .op .orA, .op .cpB,
   .op .cpC, .op .cpD, .op .cpE, .op .cpH, .op .cpL, .op .cpMemHl, .op .cpA]

/-- Row Cx of the first table (R130). -/
def firstRowC : List Entry :=
  [.op .retNz, .op .popBc, .imm16 .jpNzNn, .imm16 .jpNn, .imm16 .callNzNn, .op .pushBc,
   .imm8 .addAN, .op .rst00, .op .retZ, .op .ret, .imm16 .jpZNn, .op .prefixCb, .imm16 .callZNn,
   .imm16 .callNn, .imm8 .adcAN, .op .rst08]

/-- Row Dx of the first table (R130). -/
def firstRowD : List Entry :=
  [.op .retNc, .op .popDe, .imm16 .jpNcNn, .op .illegalD3, .imm16 .callNcNn, .op .pushDe,
   .imm8 .subN, .op .rst10, .op .retC, .op .reti, .imm16 .jpCNn, .op .illegalDB, .imm16 .callCNn,
   .op .illegalDD, .imm8 .sbcAN, .op .rst18]

/-- Row Ex of the first table (R130). -/
def firstRowE : List Entry :=
  [.imm8 .ldhMemNA, .op .popHl, .op .ldhMemCA, .op .illegalE3, .op .illegalE4, .op .pushHl,
   .imm8 .andN, .op .rst20, .imm8 .addSpE, .op .jpHl, .imm16 .ldMemNnA, .op .illegalEB,
   .op .illegalEC, .op .illegalED, .imm8 .xorN, .op .rst28]

/-- Row Fx of the first table (R130). -/
def firstRowF : List Entry :=
  [.imm8 .ldhAMemN, .op .popAf, .op .ldhAMemC, .op .di, .op .illegalF4, .op .pushAf, .imm8 .orN,
   .op .rst30, .imm8 .ldHlSpE, .op .ldSpHl, .imm16 .ldAMemNn, .op .ei, .op .illegalFC,
   .op .illegalFD, .imm8 .cpN, .op .rst38]

/-- The first table, by high hex digit (R130). -/
def firstTable : List (List Entry) :=
  [firstRow0, firstRow1, firstRow2, firstRow3, firstRow4, firstRow5, firstRow6, firstRow7] ++
  [firstRow8, firstRow9, firstRowA, firstRowB, firstRowC, firstRowD, firstRowE, firstRowF]

/-- Row 0x of the second table (R131). -/
def secondRow0 : List Instr :=
  [.rlcB, .rlcC, .rlcD, .rlcE, .rlcH, .rlcL, .rlcMemHl, .rlcA, .rrcB, .rrcC, .rrcD, .rrcE, .rrcH,
   .rrcL, .rrcMemHl, .rrcA]

/-- Row 1x of the second table (R131). -/
def secondRow1 : List Instr :=
  [.rlB, .rlC, .rlD, .rlE, .rlH, .rlL, .rlMemHl, .rlA, .rrB, .rrC, .rrD, .rrE, .rrH, .rrL,
   .rrMemHl, .rrA]

/-- Row 2x of the second table (R131). -/
def secondRow2 : List Instr :=
  [.slaB, .slaC, .slaD, .slaE, .slaH, .slaL, .slaMemHl, .slaA, .sraB, .sraC, .sraD, .sraE, .sraH,
   .sraL, .sraMemHl, .sraA]

/-- Row 3x of the second table (R131). -/
def secondRow3 : List Instr :=
  [.swapB, .swapC, .swapD, .swapE, .swapH, .swapL, .swapMemHl, .swapA, .srlB, .srlC, .srlD, .srlE,
   .srlH, .srlL, .srlMemHl, .srlA]

/-- Row 4x of the second table (R131). -/
def secondRow4 : List Instr :=
  [.bit0B, .bit0C, .bit0D, .bit0E, .bit0H, .bit0L, .bit0MemHl, .bit0A, .bit1B, .bit1C, .bit1D,
   .bit1E, .bit1H, .bit1L, .bit1MemHl, .bit1A]

/-- Row 5x of the second table (R131). -/
def secondRow5 : List Instr :=
  [.bit2B, .bit2C, .bit2D, .bit2E, .bit2H, .bit2L, .bit2MemHl, .bit2A, .bit3B, .bit3C, .bit3D,
   .bit3E, .bit3H, .bit3L, .bit3MemHl, .bit3A]

/-- Row 6x of the second table (R131). -/
def secondRow6 : List Instr :=
  [.bit4B, .bit4C, .bit4D, .bit4E, .bit4H, .bit4L, .bit4MemHl, .bit4A, .bit5B, .bit5C, .bit5D,
   .bit5E, .bit5H, .bit5L, .bit5MemHl, .bit5A]

/-- Row 7x of the second table (R131). -/
def secondRow7 : List Instr :=
  [.bit6B, .bit6C, .bit6D, .bit6E, .bit6H, .bit6L, .bit6MemHl, .bit6A, .bit7B, .bit7C, .bit7D,
   .bit7E, .bit7H, .bit7L, .bit7MemHl, .bit7A]

/-- Row 8x of the second table (R131). -/
def secondRow8 : List Instr :=
  [.res0B, .res0C, .res0D, .res0E, .res0H, .res0L, .res0MemHl, .res0A, .res1B, .res1C, .res1D,
   .res1E, .res1H, .res1L, .res1MemHl, .res1A]

/-- Row 9x of the second table (R131). -/
def secondRow9 : List Instr :=
  [.res2B, .res2C, .res2D, .res2E, .res2H, .res2L, .res2MemHl, .res2A, .res3B, .res3C, .res3D,
   .res3E, .res3H, .res3L, .res3MemHl, .res3A]

/-- Row Ax of the second table (R131). -/
def secondRowA : List Instr :=
  [.res4B, .res4C, .res4D, .res4E, .res4H, .res4L, .res4MemHl, .res4A, .res5B, .res5C, .res5D,
   .res5E, .res5H, .res5L, .res5MemHl, .res5A]

/-- Row Bx of the second table (R131). -/
def secondRowB : List Instr :=
  [.res6B, .res6C, .res6D, .res6E, .res6H, .res6L, .res6MemHl, .res6A, .res7B, .res7C, .res7D,
   .res7E, .res7H, .res7L, .res7MemHl, .res7A]

/-- Row Cx of the second table (R131). -/
def secondRowC : List Instr :=
  [.set0B, .set0C, .set0D, .set0E, .set0H, .set0L, .set0MemHl, .set0A, .set1B, .set1C, .set1D,
   .set1E, .set1H, .set1L, .set1MemHl, .set1A]

/-- Row Dx of the second table (R131). -/
def secondRowD : List Instr :=
  [.set2B, .set2C, .set2D, .set2E, .set2H, .set2L, .set2MemHl, .set2A, .set3B, .set3C, .set3D,
   .set3E, .set3H, .set3L, .set3MemHl, .set3A]

/-- Row Ex of the second table (R131). -/
def secondRowE : List Instr :=
  [.set4B, .set4C, .set4D, .set4E, .set4H, .set4L, .set4MemHl, .set4A, .set5B, .set5C, .set5D,
   .set5E, .set5H, .set5L, .set5MemHl, .set5A]

/-- Row Fx of the second table (R131). -/
def secondRowF : List Instr :=
  [.set6B, .set6C, .set6D, .set6E, .set6H, .set6L, .set6MemHl, .set6A, .set7B, .set7C, .set7D,
   .set7E, .set7H, .set7L, .set7MemHl, .set7A]

/-- The second table, by high hex digit (R131). -/
def secondTable : List (List Instr) :=
  [secondRow0, secondRow1, secondRow2, secondRow3, secondRow4, secondRow5, secondRow6, secondRow7] ++
  [secondRow8, secondRow9, secondRowA, secondRowB, secondRowC, secondRowD, secondRowE, secondRowF]

/-- The first-table entry of an opcode byte: row the high digit, column the low digit. Both tables have 16
rows of 16, so the default is never reached (`firstEntry_total` in Laws/Decode.lean). -/
def firstEntry (op : Byte) : Entry :=
  ((firstTable[op.toNat / 16]?).bind fun row => row[op.toNat % 16]?).getD (.op .nop)

/-- The second-table instruction of a byte; its default is never reached either. -/
def secondEntry (op : Byte) : Instr :=
  ((secondTable[op.toNat / 16]?).bind fun row => row[op.toNat % 16]?).getD .rlcB

/-! ### Decoding byte lists -/

/-- Why a list of bytes is no instruction. Every byte value has an entry (R136), so the one reason is that
the bytes end inside an instruction; the eleven unused opcodes decode to the instructions that name them. -/
inductive DecodeError where
  | endsInsideInstruction
  deriving DecidableEq, Repr

/-- Give a first-table entry its immediate bytes, low byte first (R120, R132). -/
def takeImmediates : Entry → List Byte → Except DecodeError (Instr × List Byte)
  | .op i, bs => .ok (i, bs)
  | .skip1 i, bs => .ok (i, bs.drop 1)
  | .imm8 f, n :: bs => .ok (f n, bs)
  | .imm16 f, lo :: hi :: bs => .ok (f (concat8 hi lo), bs)
  | .imm8 _, [] => .error .endsInsideInstruction
  | .imm16 _, [] => .error .endsInsideInstruction
  | .imm16 _, [_] => .error .endsInsideInstruction

/-- Decode with `prefixed_pending = 0`: the first table, in which 0xCB is the prefix alone (R123, R130). -/
def decodeFirst : List Byte → Except DecodeError (Instr × List Byte)
  | [] => .error .endsInsideInstruction
  | op :: bs => takeImmediates (firstEntry op) bs

/-- Decode with `prefixed_pending = 1`: the second table (R123, R131). -/
def decodeSecond : List Byte → Except DecodeError (Instr × List Byte)
  | [] => .error .endsInsideInstruction
  | op :: bs => .ok (secondEntry op, bs)

/-- Decode a whole instruction as a program holds it: 0xCB and the byte after it are one instruction of the
second table (R123), and 0xCB with nothing after it is the prefix alone. -/
def decode : List Byte → Except DecodeError (Instr × List Byte)
  | 0xCB#8 :: op :: bs => decodeSecond (op :: bs)
  | bs => decodeFirst bs

/-! ### The host's table words -/

/-- Byte `k` of a word whose first byte is its least significant. -/
def wordByte (w k : Nat) : Byte := BitVec.ofNat 8 (w / 2 ^ (8 * k))

/-- The bytes an opcode-table word stands for, in ascending addresses, followed by operand bytes of zero up to
the longest instruction. A 16-bit row of the table is `byte0:byte1`, so byte 0 (0xCB) is the HIGH byte of its
word (R135); a 16-bit word that does not begin so is read first byte lowest (assumption 11). -/
def tableBytes (nbits w : Nat) : List Byte :=
  if nbits = 16 ∧ wordByte w 1 = 0xCB then [0xCB, wordByte w 0, 0]
  else if nbits ≤ 8 then [wordByte w 0, 0, 0]
  else if nbits ≤ 16 then [wordByte w 0, wordByte w 1, 0]
  else [wordByte w 0, wordByte w 1, wordByte w 2]

/-- Whether the table word is a row of the second table (its word holds the prefix and the byte after it). -/
def tableWordPrefixed (nbits w : Nat) : Bool :=
  decide (8 < nbits) && decide ((tableBytes nbits w).head? = some 0xCB)

/-- The instruction this decoder reads from an opcode-table word. -/
def decodeTableWord (nbits w : Nat) : Option Instr :=
  let bs := tableBytes nbits w
  let r := if tableWordPrefixed nbits w then decode bs else decodeFirst bs
  match r with
  | .ok (i, _) => some i
  | .error _ => none

/-! ### Encoding -/

/-- The bytes of an instruction, in ascending addresses, from the encoding its rule states. STOP is assembled
with a second byte of zero (R134). -/
def encode : Instr → List Byte
  | .nop => [0x00]
  | .ldBcNn nn => [0x01, loByte nn, hiByte nn]
  | .ldMemBcA => [0x02]
  | .incBc => [0x03]
  | .incB => [0x04]
  | .decB => [0x05]
  | .ldBN n => [0x06, n]
  | .rlca => [0x07]
  | .ldMemNnSp nn => [0x08, loByte nn, hiByte nn]
  | .addHlBc => [0x09]
  | .ldAMemBc => [0x0A]
  | .decBc => [0x0B]
  | .incC => [0x0C]
  | .decC => [0x0D]
  | .ldCN n => [0x0E, n]
  | .rrca => [0x0F]
  | .stop => [0x10, 0x00]
  | .ldDeNn nn => [0x11, loByte nn, hiByte nn]
  | .ldMemDeA => [0x12]
  | .incDe => [0x13]
  | .incD => [0x14]
  | .decD => [0x15]
  | .ldDN n => [0x16, n]
  | .rla => [0x17]
  | .jrE e => [0x18, e]
  | .addHlDe => [0x19]
  | .ldAMemDe => [0x1A]
  | .decDe => [0x1B]
  | .incE => [0x1C]
  | .decE => [0x1D]
  | .ldEN n => [0x1E, n]
  | .rra => [0x1F]
  | .jrNzE e => [0x20, e]
  | .ldHlNn nn => [0x21, loByte nn, hiByte nn]
  | .ldMemHlIncA => [0x22]
  | .incHl => [0x23]
  | .incH => [0x24]
  | .decH => [0x25]
  | .ldHN n => [0x26, n]
  | .daa => [0x27]
  | .jrZE e => [0x28, e]
  | .addHlHl => [0x29]
  | .ldAMemHlInc => [0x2A]
  | .decHl => [0x2B]
  | .incL => [0x2C]
  | .decL => [0x2D]
  | .ldLN n => [0x2E, n]
  | .cpl => [0x2F]
  | .jrNcE e => [0x30, e]
  | .ldSpNn nn => [0x31, loByte nn, hiByte nn]
  | .ldMemHlDecA => [0x32]
  | .incSp => [0x33]
  | .incMemHl => [0x34]
  | .decMemHl => [0x35]
  | .ldMemHlN n => [0x36, n]
  | .scf => [0x37]
  | .jrCE e => [0x38, e]
  | .addHlSp => [0x39]
  | .ldAMemHlDec => [0x3A]
  | .decSp => [0x3B]
  | .incA => [0x3C]
  | .decA => [0x3D]
  | .ldAN n => [0x3E, n]
  | .ccf => [0x3F]
  | .ldBB => [0x40]
  | .ldBC => [0x41]
  | .ldBD => [0x42]
  | .ldBE => [0x43]
  | .ldBH => [0x44]
  | .ldBL => [0x45]
  | .ldBMemHl => [0x46]
  | .ldBA => [0x47]
  | .ldCB => [0x48]
  | .ldCC => [0x49]
  | .ldCD => [0x4A]
  | .ldCE => [0x4B]
  | .ldCH => [0x4C]
  | .ldCL => [0x4D]
  | .ldCMemHl => [0x4E]
  | .ldCA => [0x4F]
  | .ldDB => [0x50]
  | .ldDC => [0x51]
  | .ldDD => [0x52]
  | .ldDE => [0x53]
  | .ldDH => [0x54]
  | .ldDL => [0x55]
  | .ldDMemHl => [0x56]
  | .ldDA => [0x57]
  | .ldEB => [0x58]
  | .ldEC => [0x59]
  | .ldED => [0x5A]
  | .ldEE => [0x5B]
  | .ldEH => [0x5C]
  | .ldEL => [0x5D]
  | .ldEMemHl => [0x5E]
  | .ldEA => [0x5F]
  | .ldHB => [0x60]
  | .ldHC => [0x61]
  | .ldHD => [0x62]
  | .ldHE => [0x63]
  | .ldHH => [0x64]
  | .ldHL => [0x65]
  | .ldHMemHl => [0x66]
  | .ldHA => [0x67]
  | .ldLB => [0x68]
  | .ldLC => [0x69]
  | .ldLD => [0x6A]
  | .ldLE => [0x6B]
  | .ldLH => [0x6C]
  | .ldLL => [0x6D]
  | .ldLMemHl => [0x6E]
  | .ldLA => [0x6F]
  | .ldMemHlB => [0x70]
  | .ldMemHlC => [0x71]
  | .ldMemHlD => [0x72]
  | .ldMemHlE => [0x73]
  | .ldMemHlH => [0x74]
  | .ldMemHlL => [0x75]
  | .halt => [0x76]
  | .ldMemHlA => [0x77]
  | .ldAB => [0x78]
  | .ldAC => [0x79]
  | .ldAD => [0x7A]
  | .ldAE => [0x7B]
  | .ldAH => [0x7C]
  | .ldAL => [0x7D]
  | .ldAMemHl => [0x7E]
  | .ldAA => [0x7F]
  | .addAB => [0x80]
  | .addAC => [0x81]
  | .addAD => [0x82]
  | .addAE => [0x83]
  | .addAH => [0x84]
  | .addAL => [0x85]
  | .addAMemHl => [0x86]
  | .addAA => [0x87]
  | .adcAB => [0x88]
  | .adcAC => [0x89]
  | .adcAD => [0x8A]
  | .adcAE => [0x8B]
  | .adcAH => [0x8C]
  | .adcAL => [0x8D]
  | .adcAMemHl => [0x8E]
  | .adcAA => [0x8F]
  | .subB => [0x90]
  | .subC => [0x91]
  | .subD => [0x92]
  | .subE => [0x93]
  | .subH => [0x94]
  | .subL => [0x95]
  | .subMemHl => [0x96]
  | .subA => [0x97]
  | .sbcAB => [0x98]
  | .sbcAC => [0x99]
  | .sbcAD => [0x9A]
  | .sbcAE => [0x9B]
  | .sbcAH => [0x9C]
  | .sbcAL => [0x9D]
  | .sbcAMemHl => [0x9E]
  | .sbcAA => [0x9F]
  | .andB => [0xA0]
  | .andC => [0xA1]
  | .andD => [0xA2]
  | .andE => [0xA3]
  | .andH => [0xA4]
  | .andL => [0xA5]
  | .andMemHl => [0xA6]
  | .andA => [0xA7]
  | .xorB => [0xA8]
  | .xorC => [0xA9]
  | .xorD => [0xAA]
  | .xorE => [0xAB]
  | .xorH => [0xAC]
  | .xorL => [0xAD]
  | .xorMemHl => [0xAE]
  | .xorA => [0xAF]
  | .orB => [0xB0]
  | .orC => [0xB1]
  | .orD => [0xB2]
  | .orE => [0xB3]
  | .orH => [0xB4]
  | .orL => [0xB5]
  | .orMemHl => [0xB6]
  | .orA => [0xB7]
  | .cpB => [0xB8]
  | .cpC => [0xB9]
  | .cpD => [0xBA]
  | .cpE => [0xBB]
  | .cpH => [0xBC]
  | .cpL => [0xBD]
  | .cpMemHl => [0xBE]
  | .cpA => [0xBF]
  | .retNz => [0xC0]
  | .popBc => [0xC1]
  | .jpNzNn nn => [0xC2, loByte nn, hiByte nn]
  | .jpNn nn => [0xC3, loByte nn, hiByte nn]
  | .callNzNn nn => [0xC4, loByte nn, hiByte nn]
  | .pushBc => [0xC5]
  | .addAN n => [0xC6, n]
  | .rst00 => [0xC7]
  | .retZ => [0xC8]
  | .ret => [0xC9]
  | .jpZNn nn => [0xCA, loByte nn, hiByte nn]
  | .prefixCb => [0xCB]
  | .callZNn nn => [0xCC, loByte nn, hiByte nn]
  | .callNn nn => [0xCD, loByte nn, hiByte nn]
  | .adcAN n => [0xCE, n]
  | .rst08 => [0xCF]
  | .retNc => [0xD0]
  | .popDe => [0xD1]
  | .jpNcNn nn => [0xD2, loByte nn, hiByte nn]
  | .illegalD3 => [0xD3]
  | .callNcNn nn => [0xD4, loByte nn, hiByte nn]
  | .pushDe => [0xD5]
  | .subN n => [0xD6, n]
  | .rst10 => [0xD7]
  | .retC => [0xD8]
  | .reti => [0xD9]
  | .jpCNn nn => [0xDA, loByte nn, hiByte nn]
  | .illegalDB => [0xDB]
  | .callCNn nn => [0xDC, loByte nn, hiByte nn]
  | .illegalDD => [0xDD]
  | .sbcAN n => [0xDE, n]
  | .rst18 => [0xDF]
  | .ldhMemNA n => [0xE0, n]
  | .popHl => [0xE1]
  | .ldhMemCA => [0xE2]
  | .illegalE3 => [0xE3]
  | .illegalE4 => [0xE4]
  | .pushHl => [0xE5]
  | .andN n => [0xE6, n]
  | .rst20 => [0xE7]
  | .addSpE e => [0xE8, e]
  | .jpHl => [0xE9]
  | .ldMemNnA nn => [0xEA, loByte nn, hiByte nn]
  | .illegalEB => [0xEB]
  | .illegalEC => [0xEC]
  | .illegalED => [0xED]
  | .xorN n => [0xEE, n]
  | .rst28 => [0xEF]
  | .ldhAMemN n => [0xF0, n]
  | .popAf => [0xF1]
  | .ldhAMemC => [0xF2]
  | .di => [0xF3]
  | .illegalF4 => [0xF4]
  | .pushAf => [0xF5]
  | .orN n => [0xF6, n]
  | .rst30 => [0xF7]
  | .ldHlSpE e => [0xF8, e]
  | .ldSpHl => [0xF9]
  | .ldAMemNn nn => [0xFA, loByte nn, hiByte nn]
  | .ei => [0xFB]
  | .illegalFC => [0xFC]
  | .illegalFD => [0xFD]
  | .cpN n => [0xFE, n]
  | .rst38 => [0xFF]
  | .rlcB => [0xCB, 0x00]
  | .rlcC => [0xCB, 0x01]
  | .rlcD => [0xCB, 0x02]
  | .rlcE => [0xCB, 0x03]
  | .rlcH => [0xCB, 0x04]
  | .rlcL => [0xCB, 0x05]
  | .rlcMemHl => [0xCB, 0x06]
  | .rlcA => [0xCB, 0x07]
  | .rrcB => [0xCB, 0x08]
  | .rrcC => [0xCB, 0x09]
  | .rrcD => [0xCB, 0x0A]
  | .rrcE => [0xCB, 0x0B]
  | .rrcH => [0xCB, 0x0C]
  | .rrcL => [0xCB, 0x0D]
  | .rrcMemHl => [0xCB, 0x0E]
  | .rrcA => [0xCB, 0x0F]
  | .rlB => [0xCB, 0x10]
  | .rlC => [0xCB, 0x11]
  | .rlD => [0xCB, 0x12]
  | .rlE => [0xCB, 0x13]
  | .rlH => [0xCB, 0x14]
  | .rlL => [0xCB, 0x15]
  | .rlMemHl => [0xCB, 0x16]
  | .rlA => [0xCB, 0x17]
  | .rrB => [0xCB, 0x18]
  | .rrC => [0xCB, 0x19]
  | .rrD => [0xCB, 0x1A]
  | .rrE => [0xCB, 0x1B]
  | .rrH => [0xCB, 0x1C]
  | .rrL => [0xCB, 0x1D]
  | .rrMemHl => [0xCB, 0x1E]
  | .rrA => [0xCB, 0x1F]
  | .slaB => [0xCB, 0x20]
  | .slaC => [0xCB, 0x21]
  | .slaD => [0xCB, 0x22]
  | .slaE => [0xCB, 0x23]
  | .slaH => [0xCB, 0x24]
  | .slaL => [0xCB, 0x25]
  | .slaMemHl => [0xCB, 0x26]
  | .slaA => [0xCB, 0x27]
  | .sraB => [0xCB, 0x28]
  | .sraC => [0xCB, 0x29]
  | .sraD => [0xCB, 0x2A]
  | .sraE => [0xCB, 0x2B]
  | .sraH => [0xCB, 0x2C]
  | .sraL => [0xCB, 0x2D]
  | .sraMemHl => [0xCB, 0x2E]
  | .sraA => [0xCB, 0x2F]
  | .swapB => [0xCB, 0x30]
  | .swapC => [0xCB, 0x31]
  | .swapD => [0xCB, 0x32]
  | .swapE => [0xCB, 0x33]
  | .swapH => [0xCB, 0x34]
  | .swapL => [0xCB, 0x35]
  | .swapMemHl => [0xCB, 0x36]
  | .swapA => [0xCB, 0x37]
  | .srlB => [0xCB, 0x38]
  | .srlC => [0xCB, 0x39]
  | .srlD => [0xCB, 0x3A]
  | .srlE => [0xCB, 0x3B]
  | .srlH => [0xCB, 0x3C]
  | .srlL => [0xCB, 0x3D]
  | .srlMemHl => [0xCB, 0x3E]
  | .srlA => [0xCB, 0x3F]
  | .bit0B => [0xCB, 0x40]
  | .bit0C => [0xCB, 0x41]
  | .bit0D => [0xCB, 0x42]
  | .bit0E => [0xCB, 0x43]
  | .bit0H => [0xCB, 0x44]
  | .bit0L => [0xCB, 0x45]
  | .bit0MemHl => [0xCB, 0x46]
  | .bit0A => [0xCB, 0x47]
  | .bit1B => [0xCB, 0x48]
  | .bit1C => [0xCB, 0x49]
  | .bit1D => [0xCB, 0x4A]
  | .bit1E => [0xCB, 0x4B]
  | .bit1H => [0xCB, 0x4C]
  | .bit1L => [0xCB, 0x4D]
  | .bit1MemHl => [0xCB, 0x4E]
  | .bit1A => [0xCB, 0x4F]
  | .bit2B => [0xCB, 0x50]
  | .bit2C => [0xCB, 0x51]
  | .bit2D => [0xCB, 0x52]
  | .bit2E => [0xCB, 0x53]
  | .bit2H => [0xCB, 0x54]
  | .bit2L => [0xCB, 0x55]
  | .bit2MemHl => [0xCB, 0x56]
  | .bit2A => [0xCB, 0x57]
  | .bit3B => [0xCB, 0x58]
  | .bit3C => [0xCB, 0x59]
  | .bit3D => [0xCB, 0x5A]
  | .bit3E => [0xCB, 0x5B]
  | .bit3H => [0xCB, 0x5C]
  | .bit3L => [0xCB, 0x5D]
  | .bit3MemHl => [0xCB, 0x5E]
  | .bit3A => [0xCB, 0x5F]
  | .bit4B => [0xCB, 0x60]
  | .bit4C => [0xCB, 0x61]
  | .bit4D => [0xCB, 0x62]
  | .bit4E => [0xCB, 0x63]
  | .bit4H => [0xCB, 0x64]
  | .bit4L => [0xCB, 0x65]
  | .bit4MemHl => [0xCB, 0x66]
  | .bit4A => [0xCB, 0x67]
  | .bit5B => [0xCB, 0x68]
  | .bit5C => [0xCB, 0x69]
  | .bit5D => [0xCB, 0x6A]
  | .bit5E => [0xCB, 0x6B]
  | .bit5H => [0xCB, 0x6C]
  | .bit5L => [0xCB, 0x6D]
  | .bit5MemHl => [0xCB, 0x6E]
  | .bit5A => [0xCB, 0x6F]
  | .bit6B => [0xCB, 0x70]
  | .bit6C => [0xCB, 0x71]
  | .bit6D => [0xCB, 0x72]
  | .bit6E => [0xCB, 0x73]
  | .bit6H => [0xCB, 0x74]
  | .bit6L => [0xCB, 0x75]
  | .bit6MemHl => [0xCB, 0x76]
  | .bit6A => [0xCB, 0x77]
  | .bit7B => [0xCB, 0x78]
  | .bit7C => [0xCB, 0x79]
  | .bit7D => [0xCB, 0x7A]
  | .bit7E => [0xCB, 0x7B]
  | .bit7H => [0xCB, 0x7C]
  | .bit7L => [0xCB, 0x7D]
  | .bit7MemHl => [0xCB, 0x7E]
  | .bit7A => [0xCB, 0x7F]
  | .res0B => [0xCB, 0x80]
  | .res0C => [0xCB, 0x81]
  | .res0D => [0xCB, 0x82]
  | .res0E => [0xCB, 0x83]
  | .res0H => [0xCB, 0x84]
  | .res0L => [0xCB, 0x85]
  | .res0MemHl => [0xCB, 0x86]
  | .res0A => [0xCB, 0x87]
  | .res1B => [0xCB, 0x88]
  | .res1C => [0xCB, 0x89]
  | .res1D => [0xCB, 0x8A]
  | .res1E => [0xCB, 0x8B]
  | .res1H => [0xCB, 0x8C]
  | .res1L => [0xCB, 0x8D]
  | .res1MemHl => [0xCB, 0x8E]
  | .res1A => [0xCB, 0x8F]
  | .res2B => [0xCB, 0x90]
  | .res2C => [0xCB, 0x91]
  | .res2D => [0xCB, 0x92]
  | .res2E => [0xCB, 0x93]
  | .res2H => [0xCB, 0x94]
  | .res2L => [0xCB, 0x95]
  | .res2MemHl => [0xCB, 0x96]
  | .res2A => [0xCB, 0x97]
  | .res3B => [0xCB, 0x98]
  | .res3C => [0xCB, 0x99]
  | .res3D => [0xCB, 0x9A]
  | .res3E => [0xCB, 0x9B]
  | .res3H => [0xCB, 0x9C]
  | .res3L => [0xCB, 0x9D]
  | .res3MemHl => [0xCB, 0x9E]
  | .res3A => [0xCB, 0x9F]
  | .res4B => [0xCB, 0xA0]
  | .res4C => [0xCB, 0xA1]
  | .res4D => [0xCB, 0xA2]
  | .res4E => [0xCB, 0xA3]
  | .res4H => [0xCB, 0xA4]
  | .res4L => [0xCB, 0xA5]
  | .res4MemHl => [0xCB, 0xA6]
  | .res4A => [0xCB, 0xA7]
  | .res5B => [0xCB, 0xA8]
  | .res5C => [0xCB, 0xA9]
  | .res5D => [0xCB, 0xAA]
  | .res5E => [0xCB, 0xAB]
  | .res5H => [0xCB, 0xAC]
  | .res5L => [0xCB, 0xAD]
  | .res5MemHl => [0xCB, 0xAE]
  | .res5A => [0xCB, 0xAF]
  | .res6B => [0xCB, 0xB0]
  | .res6C => [0xCB, 0xB1]
  | .res6D => [0xCB, 0xB2]
  | .res6E => [0xCB, 0xB3]
  | .res6H => [0xCB, 0xB4]
  | .res6L => [0xCB, 0xB5]
  | .res6MemHl => [0xCB, 0xB6]
  | .res6A => [0xCB, 0xB7]
  | .res7B => [0xCB, 0xB8]
  | .res7C => [0xCB, 0xB9]
  | .res7D => [0xCB, 0xBA]
  | .res7E => [0xCB, 0xBB]
  | .res7H => [0xCB, 0xBC]
  | .res7L => [0xCB, 0xBD]
  | .res7MemHl => [0xCB, 0xBE]
  | .res7A => [0xCB, 0xBF]
  | .set0B => [0xCB, 0xC0]
  | .set0C => [0xCB, 0xC1]
  | .set0D => [0xCB, 0xC2]
  | .set0E => [0xCB, 0xC3]
  | .set0H => [0xCB, 0xC4]
  | .set0L => [0xCB, 0xC5]
  | .set0MemHl => [0xCB, 0xC6]
  | .set0A => [0xCB, 0xC7]
  | .set1B => [0xCB, 0xC8]
  | .set1C => [0xCB, 0xC9]
  | .set1D => [0xCB, 0xCA]
  | .set1E => [0xCB, 0xCB]
  | .set1H => [0xCB, 0xCC]
  | .set1L => [0xCB, 0xCD]
  | .set1MemHl => [0xCB, 0xCE]
  | .set1A => [0xCB, 0xCF]
  | .set2B => [0xCB, 0xD0]
  | .set2C => [0xCB, 0xD1]
  | .set2D => [0xCB, 0xD2]
  | .set2E => [0xCB, 0xD3]
  | .set2H => [0xCB, 0xD4]
  | .set2L => [0xCB, 0xD5]
  | .set2MemHl => [0xCB, 0xD6]
  | .set2A => [0xCB, 0xD7]
  | .set3B => [0xCB, 0xD8]
  | .set3C => [0xCB, 0xD9]
  | .set3D => [0xCB, 0xDA]
  | .set3E => [0xCB, 0xDB]
  | .set3H => [0xCB, 0xDC]
  | .set3L => [0xCB, 0xDD]
  | .set3MemHl => [0xCB, 0xDE]
  | .set3A => [0xCB, 0xDF]
  | .set4B => [0xCB, 0xE0]
  | .set4C => [0xCB, 0xE1]
  | .set4D => [0xCB, 0xE2]
  | .set4E => [0xCB, 0xE3]
  | .set4H => [0xCB, 0xE4]
  | .set4L => [0xCB, 0xE5]
  | .set4MemHl => [0xCB, 0xE6]
  | .set4A => [0xCB, 0xE7]
  | .set5B => [0xCB, 0xE8]
  | .set5C => [0xCB, 0xE9]
  | .set5D => [0xCB, 0xEA]
  | .set5E => [0xCB, 0xEB]
  | .set5H => [0xCB, 0xEC]
  | .set5L => [0xCB, 0xED]
  | .set5MemHl => [0xCB, 0xEE]
  | .set5A => [0xCB, 0xEF]
  | .set6B => [0xCB, 0xF0]
  | .set6C => [0xCB, 0xF1]
  | .set6D => [0xCB, 0xF2]
  | .set6E => [0xCB, 0xF3]
  | .set6H => [0xCB, 0xF4]
  | .set6L => [0xCB, 0xF5]
  | .set6MemHl => [0xCB, 0xF6]
  | .set6A => [0xCB, 0xF7]
  | .set7B => [0xCB, 0xF8]
  | .set7C => [0xCB, 0xF9]
  | .set7D => [0xCB, 0xFA]
  | .set7E => [0xCB, 0xFB]
  | .set7H => [0xCB, 0xFC]
  | .set7L => [0xCB, 0xFD]
  | .set7MemHl => [0xCB, 0xFE]
  | .set7A => [0xCB, 0xFF]

/-- The same bytes as the machine fetches them: an instruction of the second table is fetched without its
prefix byte, in the step after the prefix (R311), and STOP's second byte is not fetched (R292). -/
def fetchedBytes (i : Instr) : List Byte :=
  match encode i with
  | 0xCB#8 :: op :: _ => [op]
  | bs => if i = .stop then [0x10] else bs

/-- Whether the instruction is of the second table. -/
def Instr.isSecondTable (i : Instr) : Bool := decide (2 ≤ (encode i).length ∧ (encode i).head? = some 0xCB)

end Sys2Proof
end

