-- ==== Sys2Proof/Machine/Operands.lean ====
section
/-! DEFINITION. The operands of instructions: reading and writing registers, pairs and flags, and the conditions. -/

namespace Sys2Proof.Machine

/-! ### Registers (R9, R22) -/

/-- `x[i]` for the registers a field selects (R22). -/
def Cpu.reg8 (c : Cpu) : Reg8 → Byte
  | .b => c.b
  | .c => c.c
  | .d => c.d
  | .e => c.e
  | .h => c.h
  | .l => c.l
  | .a => c.a

/-- `x[i] <- v` (R22). -/
def Cpu.setReg8 (c : Cpu) (r : Reg8) (v : Byte) : Cpu :=
  match r with
  | .b => { c with b := v }
  | .c => { c with c := v }
  | .d => { c with d := v }
  | .e => { c with e := v }
  | .h => { c with h := v }
  | .l => { c with l := v }
  | .a => { c with a := v }

/-- Write F: bits 3:0 are forced to zero (R23, R27). -/
def Cpu.setF (c : Cpu) (v : Byte) : Cpu := { c with f := v &&& 0xF0 }

/-- The four flags (R26). -/
def Cpu.flags (c : Cpu) : Flags := Flags.ofByte c.f

/-- Write the four flags (R26, R27). -/
def Cpu.setFlags (c : Cpu) (x : Flags) : Cpu := { c with f := x.toByte }

/-! ### Pairs: the first-named register is the high byte (R23) -/

/-- BC. -/
def Cpu.bc (c : Cpu) : Addr := concat8 c.b c.c

/-- DE. -/
def Cpu.de (c : Cpu) : Addr := concat8 c.d c.e

/-- HL. -/
def Cpu.hl (c : Cpu) : Addr := concat8 c.h c.l

/-- AF; the low four bits of F read as zero (R23, R27). -/
def Cpu.af (c : Cpu) : Addr := concat8 c.a (c.f &&& 0xF0)

/-- Write HL. -/
def Cpu.setHl (c : Cpu) (v : Addr) : Cpu := { c with h := hiByte v, l := loByte v }

/-- `rp[p]` (R125). -/
def Cpu.pair (c : Cpu) : Pair → Addr
  | .bc => c.bc
  | .de => c.de
  | .hl => c.hl
  | .sp => c.sp

/-- `rp[p] <- v` (R125). -/
def Cpu.setPair (c : Cpu) (p : Pair) (v : Addr) : Cpu :=
  match p with
  | .bc => { c with b := hiByte v, c := loByte v }
  | .de => { c with d := hiByte v, e := loByte v }
  | .hl => c.setHl v
  | .sp => { c with sp := v }

/-- `rp2[p]` (R125). -/
def Cpu.stackPair (c : Cpu) : StackPair → Addr
  | .bc => c.bc
  | .de => c.de
  | .hl => c.hl
  | .af => c.af

/-- `rp2[p] <- v`; writing AF forces F[3:0] to zero (R125, R185). -/
def Cpu.setStackPair (c : Cpu) (p : StackPair) (v : Addr) : Cpu :=
  match p with
  | .bc => c.setPair .bc v
  | .de => c.setPair .de v
  | .hl => c.setPair .hl v
  | .af => ({ c with a := hiByte v } : Cpu).setF (loByte v)

/-- The pairs BC and DE as pointers (R24). -/
def Cpu.ptr (c : Cpu) : PtrPair → Addr
  | .bc => c.bc
  | .de => c.de

/-- HL after an access through `(HL+)` or `(HL-)` (R122). -/
def Cpu.stepHl (c : Cpu) : HlStep → Cpu
  | .inc => c.setHl (c.hl + 1)
  | .dec => c.setHl (c.hl - 1)

/-- The high-page address `0xFF00 + zext_16(n)` (R122, R170). -/
def highPage (n : Byte) : Addr := 0xFF00 + zext16 n

/-- `cond(cc)` (R126, R270). -/
def Cpu.cond (c : Cpu) : Cond → Bool
  | .nz => !c.flags.z
  | .z => c.flags.z
  | .nc => !c.flags.c
  | .c => c.flags.c

end Sys2Proof.Machine
end

