-- ==== Sys2Proof/Machine/Timer.lean ====
section
/-! DEFINITION. The timer (61_timer.md). Functions answer the new timer and, where one can arise, whether the timer
interrupt is requested. -/

namespace Sys2Proof.Machine

/-- The divider bit a rate setting watches (R342). -/
def timerSel (rate : BitVec 2) : Nat :=
  if rate = 0b00 then 9 else if rate = 0b01 then 3 else if rate = 0b10 then 5 else 7

/-- The AND result: enable and watched divider bit (R343). -/
def Timer.andNow (t : Timer) : Bool :=
  t.tac.getLsbD 2 && t.div.getLsbD (timerSel (t.tac.extractLsb' 0 2))

/-- `IncTima()` (R345). -/
def Timer.incTima (t : Timer) : Timer :=
  if t.tima = 0xFF then { t with tima := 0x00, tstate := .pending, tcycles := 0 }
  else { t with tima := t.tima + 1 }

/-- Edge detection on the present AND result (R344): increment on a fall, then remember the result. -/
def Timer.detectEdge (t : Timer) : Timer :=
  let now := t.andNow
  let t' := if t.prevAnd && !now then t.incTima else t
  { t' with prevAnd := now }

/-- The pending bookkeeping of a tick (R341, R346, R347); the Boolean is the interrupt request. -/
def Timer.pendingTick (t : Timer) : Timer × Bool :=
  if t.tstate = .pending then
    let n := t.tcycles + 1
    if n = 4 then ({ t with tcycles := n, tima := t.tma }, true)
    else if n = 5 then ({ t with tcycles := 0, tstate := .normal }, false)
    else ({ t with tcycles := n }, false)
  else (t, false)

/-- `TimerTick()` (R341). -/
def Timer.tick (t : Timer) : Timer × Bool :=
  let p := t.pendingTick
  (({ p.1 with div := p.1.div + 1 } : Timer).detectEdge, p.2)

/-- A write to either divider half (R349). -/
def Timer.writeDiv (t : Timer) : Timer := { t with div := 0 }

/-- A write to TIMA (R350). -/
def Timer.writeTima (t : Timer) (v : Byte) : Timer :=
  if t.tstate = .pending ∧ t.tcycles < 4 then { t with tima := v, tstate := .normal, tcycles := 0 }
  else { t with tima := v }

/-- A write to TMA (R351). -/
def Timer.writeTma (t : Timer) (v : Byte) : Timer := { t with tma := v }

/-- A write to TAC: store three bits and re-evaluate the edge at once (R352). -/
def Timer.writeTac (t : Timer) (v : Byte) : Timer :=
  ({ t with tac := v.extractLsb' 0 3 } : Timer).detectEdge

/-- A read of TAC: the unstored bits read 1 (R348). -/
def Timer.readTac (t : Timer) : Byte := 0b11111#5 ++ t.tac

end Sys2Proof.Machine
end

