-- ==== Sys2Proof/Machine/Ops.lean ====
section
/-! DEFINITION. The shared operations of the machine: the bus (20_memory.md), the tick and its charging, DMA
(63_oam_dma.md), fetch and stack (R11, R318), interrupt dispatch (R320) and the return from it (R280). An operation
may end the run, keeping the state at the raise (R12). -/

namespace Sys2Proof.Machine

/-! ### Operations -/

/-- An operation on the machine, which may raise a terminal outcome and then keeps the state it was raised in. -/
abbrev Op := EStateM Raise State

/-- What a step or an instruction's meaning answers. -/
abbrev Answer := Host.Outcome State Fault Refusal

/-- Read the state. -/
def look {α : Type} (f : State → α) : Op α := fun s => .ok (f s) s

/-- Change the state. -/
def update (f : State → State) : Op Unit := fun s => .ok () (f s)

/-- `raise <Outcome>(info)` (R12). -/
def raise {α : Type} (r : Raise) : Op α := fun s => .error r s

/-- The fault a raise becomes, with the state kept (R12). -/
def Raise.keep (r : Raise) (s : State) : Fault :=
  match r with
  | .illegalOpcode op addr => .illegalOpcode op addr s
  | .stopped pc => .stopped pc s
  | .configError kind => .configError kind s

/-- Run an operation as a whole meaning. -/
def answer (op : Op Unit) (s : State) : Answer :=
  match op s with
  | .ok _ t => .next t
  | .error r t => .fault (r.keep t)

/-- Change the CPU only. -/
def updateCpu (f : Cpu → Cpu) : Op Unit := update fun s => { s with cpu := f s.cpu }

/-! ### Interrupt requests (R300, R302) -/

/-- `IF[i] <- 1` for the bits given (R302). -/
def State.request (s : State) (bits : BitVec 5) : State := { s with iflag := s.iflag ||| bits }

/-- `IE & IF & 0x1F` (R300). -/
def State.pending (s : State) : BitVec 5 := s.ie &&& s.iflag

/-! ### The address decoder (R80, R52) -/

/-- The regions of the address space (R80). -/
inductive Region where
  | romWindow | vram | extRam | wram | prohibited | oam | io | hram | ieRegister
  deriving DecidableEq, Repr

/-- The region of an address (R80). -/
def region (a : Addr) : Region :=
  let n := a.toNat
  if n < 0x8000 then .romWindow
  else if n < 0xA000 then .vram
  else if n < 0xC000 then .extRam
  else if n < 0xE000 then .wram
  else if n < 0xFE00 then .prohibited
  else if n < 0xFEA0 then .oam
  else if n < 0xFF00 then .prohibited
  else if n < 0xFF80 then .io
  else if n < 0xFFFF then .hram
  else .ieRegister

/-- Whether an address is of one of the storage arrays (R35). -/
def isStorage (a : Addr) : Bool :=
  match region a with
  | .vram | .wram | .oam | .hram => true
  | .romWindow | .extRam | .prohibited | .io | .ieRegister => false

/-- The registers of the I/O page (R52). -/
inductive IoReg where
  | joyp | divLow | divHigh | tima | tma | tac | ifReg
  | lcdc | stat | scy | scx | ly | lyc | dma | bgp | obp0 | obp1 | wy | wx
  | audioStub
  deriving DecidableEq, Repr

/-- The map of the I/O page (R52). -/
def ioTable : List (Nat × IoReg) :=
  [(0xFF00, .joyp), (0xFF03, .divLow), (0xFF04, .divHigh), (0xFF05, .tima), (0xFF06, .tma),
   (0xFF07, .tac), (0xFF0F, .ifReg)] ++
  [(0xFF40, .lcdc), (0xFF41, .stat), (0xFF42, .scy), (0xFF43, .scx), (0xFF44, .ly), (0xFF45, .lyc),
   (0xFF46, .dma), (0xFF47, .bgp), (0xFF48, .obp0), (0xFF49, .obp1), (0xFF4A, .wy), (0xFF4B, .wx)]

/-- The I/O register at an address, under the parameters DIV_LO_MAPPED and AUDIO_STUB_ADDR (R52, R478). -/
def ioReg (p : Params) (a : Addr) : Option IoReg :=
  match ioTable.lookup a.toNat with
  | some .divLow => if p.divLoMapped then some .divLow else stub
  | some r => some r
  | none => stub
where
  /-- The stub answers only at an address nothing else is mapped at (assumption 14). -/
  stub : Option IoReg := if p.audioStubAddr = some a then some .audioStub else none

/-- What a read of an I/O register returns (R37, R39, R43, R49). -/
def State.ioValue (s : State) : IoReg → Byte
  | .joyp => s.joypad.readByte
  | .divLow => loByte s.timer.div
  | .divHigh => hiByte s.timer.div
  | .tima => s.timer.tima
  | .tma => s.timer.tma
  | .tac => s.timer.readTac
  | .ifReg => 0b111#3 ++ s.iflag
  | .lcdc => s.display.lcdc
  | .stat => s.display.readStat
  | .scy => s.display.scy
  | .scx => s.display.scx
  | .ly => s.display.ly
  | .lyc => s.display.lyc
  | .dma => s.dma.reg
  | .bgp => s.display.bgp
  | .obp0 => s.display.obp0
  | .obp1 => s.display.obp1
  | .wy => s.display.wy
  | .wx => s.display.wx
  | .audioStub => s.audioStub

/-- `Poll()` on the state (R473). -/
def State.poll (s : State) : State :=
  ({ s with joypad := s.joypad.poll } : State).request (if s.joypad.fell then 0b10000 else 0)

/-- What a read of an I/O register changes: only the input register is polled (R89, R474). -/
def State.ioReadEffect (s : State) : IoReg → State
  | .joyp => s.poll
  | _ => s

/-- The DMA trigger (R461). -/
def Dma.trigger (v : Byte) : Dma :=
  { src := concat8 v 0, dst := 0xFE00, wait := 4, active := true, reg := v }

/-- What a write to an I/O register does (R37, R39, R43, R49, R90, R372). -/
def State.ioWrite (s : State) (r : IoReg) (v : Byte) : State :=
  match r with
  | .joyp => { s with joypad := s.joypad.writeByte v }
  | .divLow => { s with timer := s.timer.writeDiv }
  | .divHigh => { s with timer := s.timer.writeDiv }
  | .tima => { s with timer := s.timer.writeTima v }
  | .tma => { s with timer := s.timer.writeTma v }
  | .tac => { s with timer := s.timer.writeTac v }
  | .ifReg => { s with iflag := v.extractLsb' 0 5 }
  | .lcdc => { s with display := { s.display with lcdc := v } }
  | .stat => { s with display := { s.display with statEn := v.extractLsb' 3 4 } }
  | .scy => { s with display := { s.display with scy := v } }
  | .scx => { s with display := { s.display with scx := v } }
  | .ly => s
  | .lyc => { s with display := { s.display with lyc := v } }
  | .dma => { s with dma := Dma.trigger v }
  | .bgp => { s with display := { s.display with bgp := v } }
  | .obp0 => { s with display := { s.display with obp0 := v } }
  | .obp1 => { s with display := { s.display with obp1 := v } }
  | .wy => { s with display := { s.display with wy := v } }
  | .wx => { s with display := { s.display with wx := v } }
  | .audioStub => { s with audioStub := v }

/-- `BusRead(a)`: the uncharged decoded read (R81, R83). -/
def busRead (a : Addr) : Op Byte := fun s =>
  match region a with
  | .romWindow => .ok (s.cart.readRom a) s
  | .extRam =>
    if s.cart.ramMissing then .error (.configError .noRam) s
    else .ok (s.cart.readRam s.params.sentinel a) s
  | .vram | .wram | .oam | .hram => .ok (s.mem.read a.toNat) s
  | .prohibited => .ok s.params.sentinel s
  | .ieRegister => .ok (0b111#3 ++ s.ie) s
  | .io =>
    match ioReg s.params a with
    | some r => .ok (s.ioValue r) (s.ioReadEffect r)
    | none => .ok s.params.sentinel s

/-- `BusWrite(a, v)`: the uncharged decoded write (R82, R83). -/
def busWrite (a : Addr) (v : Byte) : Op Unit := fun s =>
  match region a with
  | .romWindow => .ok () { s with cart := s.cart.writeRom a v }
  | .extRam =>
    if s.cart.ramMissing then .error (.configError .noRam) s
    else .ok () { s with cart := s.cart.writeRam a v }
  | .vram | .wram | .oam | .hram => .ok () { s with mem := s.mem.write a.toNat v }
  | .prohibited => .ok () s
  | .ieRegister => .ok () { s with ie := v.extractLsb' 0 5 }
  | .io =>
    match ioReg s.params a with
    | some r => .ok () (s.ioWrite r v)
    | none => .ok () s

/-! ### The tick (R71) -/

/-- The clock and the timer's part of a tick (R71, R341). -/
def State.timerTick (s : State) : State :=
  ({ s with clk := s.clk + 1, timer := s.timer.tick.1 } : State).request
    (if s.timer.tick.2 then 0b00100 else 0)

/-- Both cursors advance and the 3-tick delay is armed after a byte (R462). -/
def Dma.advance (d : Dma) : Dma := { d with src := d.src + 1, dst := d.dst + 1, wait := 3 }

/-- The copy of one byte through the bus, uncharged (R463). -/
def dmaCopy : Op Unit := do
  let src ← look fun s => s.dma.src
  let dst ← look fun s => s.dma.dst
  let v ← busRead src
  busWrite dst v
  update fun s => { s with dma := s.dma.advance }

/-- `DmaTick()` (R462). -/
def dmaTick : Op Unit := fun s =>
  if s.dma.active = false then .ok () s
  else if 0 < s.dma.wait then .ok () { s with dma := { s.dma with wait := s.dma.wait - 1 } }
  else if 0xFE9F < s.dma.dst.toNat then .ok () { s with dma := { s.dma with active := false } }
  else dmaCopy s

/-- The display controller's part of a tick, after its DMA tick (R371, R445). -/
def State.displayTick (s : State) : State :=
  let r := s.display.tick s.mem
  ({ s with display := r.1, emits := r.2.1.toList ++ s.emits } : State).request r.2.2

/-- `Tick()` (R71): the clock and the timer, then DMA, then the display controller. -/
def tick : Op Unit := do
  update State.timerTick
  dmaTick
  update State.displayTick

/-- `Tick()` a number of times, one after another. -/
def ticks : Nat → Op Unit
  | 0 => pure ()
  | n + 1 => do
    tick
    ticks n

/-- `Charge(m)`: `4 * m` ticks (R72). -/
def charge (m : Nat) : Op Unit := ticks (4 * m)

/-- `Internal()` (R10, R72). -/
def internal : Op Unit := charge 1

/-- `MemRead(a, 1)` (R73). -/
def memRead (a : Addr) : Op Byte := do
  charge 1
  busRead a

/-- `MemWrite(a, 1, v)` (R74). -/
def memWrite (a : Addr) (v : Byte) : Op Unit := do
  charge 1
  busWrite a v

/-! ### Fetch (R11, R318) -/

/-- The program counter after a fetch: the halt-bug flag suppresses one increment (R318). -/
def Cpu.afterFetch (c : Cpu) : Cpu :=
  if c.haltBug then { c with haltBug := false } else { c with pc := c.pc + 1 }

/-- `Fetch8()` (R318). -/
def fetch8 : Op Byte := do
  let pc ← look fun s => s.cpu.pc
  let v ← memRead pc
  updateCpu Cpu.afterFetch
  return v

/-- `Fetch16()`: the low byte first (R11). -/
def fetch16 : Op (BitVec 16) := do
  let lo ← fetch8
  let hi ← fetch8
  return concat8 hi lo

/-! ### Stack (R11, R186) -/

/-- Push one byte: SP is decremented before the write. -/
def push8 (v : Byte) : Op Unit := do
  updateCpu fun c => { c with sp := c.sp - 1 }
  let sp ← look fun s => s.cpu.sp
  memWrite sp v

/-- `Push16(v)`: the high byte first (R11). -/
def push16 (v : BitVec 16) : Op Unit := do
  push8 (hiByte v)
  push8 (loByte v)

/-- Pop one byte: SP is incremented after the read. -/
def pop8 : Op Byte := do
  let sp ← look fun s => s.cpu.sp
  let v ← memRead sp
  updateCpu fun c => { c with sp := c.sp + 1 }
  return v

/-- `Pop16()`: the low byte first (R11). -/
def pop16 : Op (BitVec 16) := do
  let lo ← pop8
  let hi ← pop8
  return concat8 hi lo

/-- `pc <- target` (R12). -/
def jumpTo (target : Addr) : Op Unit := updateCpu fun c => { c with pc := target }

/-! ### Interrupt dispatch and the return from it -/

/-- The lowest set bit of a set of requests: fixed priority, lowest first (R301, R324). -/
def lowestBit (m : BitVec 5) : Option Nat :=
  if m.getLsbD 0 then some 0
  else if m.getLsbD 1 then some 1
  else if m.getLsbD 2 then some 2
  else if m.getLsbD 3 then some 3
  else if m.getLsbD 4 then some 4
  else none

/-- `vector(i)` (R322). -/
def vector (i : Nat) : Addr := BitVec.ofNat 16 (0x0040 + 8 * i)

/-- The end of a dispatch: the source is chosen among IF and the IE snapshot as IF stands now; with none left the
dispatch is cancelled and goes to address 0 (R320, R323). -/
def State.takeVector (s : State) (ieSnap : BitVec 5) : State :=
  match lowestBit (s.iflag &&& ieSnap) with
  | some i =>
    { s with iflag := s.iflag &&& ~~~(1#5 <<< i), cpu := { s.cpu with pc := vector i } }
  | none => { s with cpu := { s.cpu with pc := 0x0000 } }

/-- `Dispatch()` (R320, R321). -/
def dispatch : Op Unit := do
  updateCpu fun c => { c with ime := false, imeSched := false }
  charge 2
  let pc ← look fun s => s.cpu.pc
  push8 (hiByte pc)
  let ieSnap ← look fun s => s.ie
  push8 (loByte pc)
  update fun s => s.takeVector ieSnap
  charge 1

/-- The return from a subroutine: pop, one internal cycle, go there (R278). -/
def returnOp : Op Unit := do
  let v ← pop16
  internal
  jumpTo v

/-- The return from an interrupt: a return that sets IME at once (R280, R326). -/
def returnFromInterrupt : Op Unit := do
  returnOp
  updateCpu fun c => { c with ime := true }

end Sys2Proof.Machine
end

