-- ==== Sys2Proof/Machine/Cycle.lean ====
section
/-! DEFINITION. The phases of one CPU step that come before an instruction's meaning (R310): the host's turn, the prefixed
step, the halted step, the dispatch check, the delayed enable, and the fetch of the opcode and its immediates. -/

namespace Sys2Proof.Machine

/-- `HostPoll(b)` (R476). -/
def State.hostPoll (s : State) (b : Buttons) : State :=
  ({ s with joypad := { s.joypad with buttons := b } } : State).poll

/-- The host's turn between two steps: the next entry of its input, if there is one (R476, assumption 9). -/
def State.hostTurn (s : State) : State :=
  match s.hostInput with
  | [] => s
  | none :: rest => { s with hostInput := rest }
  | some b :: rest => ({ s with hostInput := rest } : State).hostPoll b

/-- Leaving the halted state: the halt-bug is armed when IME is clear (R312, R313). -/
def Cpu.wake (c : Cpu) : Cpu :=
  if c.halted then { c with halted := false, haltBug := c.haltBug || !c.ime } else c

/-- Whether the dispatch check finds an interrupt to take (R315). -/
def State.dispatchDue (s : State) : Bool := s.cpu.ime && decide (s.pending ≠ 0)

/-- The dispatch check (R315). -/
def dispatchCheck : Op Unit := fun s => if s.dispatchDue then dispatch s else .ok () s

/-- The delayed enable (R316). -/
def Cpu.applyImeSched (c : Cpu) : Cpu :=
  if c.imeSched then { c with ime := true, imeSched := false } else c

/-- The fetch of an opcode byte, with its address kept for IllegalOpcode (R317, R330). -/
def fetchOpcode : Op Byte := do
  updateCpu fun c => { c with opAddr := c.pc }
  fetch8

/-- Fetch the immediates of a first-table entry, before the instruction does anything else (R132). -/
def fetchImmediates : Entry → Op Instr
  | .op i => pure i
  | .skip1 i => pure i
  | .imm8 f => do
    let n ← fetch8
    return f n
  | .imm16 f => do
    let nn ← fetch16
    return f nn

/-- Fetch and decode by the first table (R317). -/
def fetchFirst : Op Instr := do
  let op ← fetchOpcode
  fetchImmediates (firstEntry op)

/-- Fetch and decode by the second table (R311). -/
def fetchSecond : Op Instr := do
  let op ← fetchOpcode
  return secondEntry op

/-- The prefixed step up to its instruction (R311). -/
def prefixedPhase : Op Instr := do
  updateCpu fun c => { c with prefixedPending := false }
  fetchSecond

/-- The phases of a step that is not prefixed and not idle, up to its instruction (R310). -/
def runningPhase : Op Instr := do
  updateCpu Cpu.wake
  dispatchCheck
  updateCpu Cpu.applyImeSched
  fetchFirst

/-- `CpuStep()` up to the instruction to execute; `none` is the idle halted step (R310, R312). -/
def cpuStepPhases : Op (Option Instr) := fun s =>
  if s.cpu.prefixedPending then (some <$> prefixedPhase) s
  else if s.cpu.halted && decide (s.pending = 0) then ((fun _ => none) <$> charge 1) s
  else (some <$> runningPhase) s

/-- The host's turn and then `CpuStep()` up to the instruction to execute. -/
def beginStep : Op (Option Instr) := fun s => cpuStepPhases s.hostTurn

/-! ### Placing an instruction for the host -/

/-- Store a byte where a fetch at an address reads it: the image or external RAM behind the cartridge's windows, else the
storage arrays. Elsewhere nothing can be placed. -/
def State.poke (s : State) (a : Addr) (v : Byte) : State :=
  match region a with
  | .romWindow => { s with cart := { s.cart with rom := s.cart.rom.write (s.cart.romOffset a) v } }
  | .extRam => { s with cart := s.cart.writeRam a v }
  | .vram | .wram | .oam | .hram => { s with mem := s.mem.write a.toNat v }
  | .prohibited | .io | .ieRegister => s

/-- Store bytes at ascending addresses. -/
def State.pokes (s : State) (a : Addr) : List Byte → State
  | [] => s
  | v :: rest => (s.poke a v).pokes (a + 1) rest

/-- The CPU made ready to fetch at `pc` in the next step: running, no halt-bug, no host event and no request that the
dispatch check would take first. -/
def State.readyToFetch (s : State) (isPrefixed : Bool) : State :=
  { s with
    cpu := { s.cpu with halted := false, haltBug := false, prefixedPending := isPrefixed }
    iflag := if s.dispatchDue then 0 else s.iflag
    hostInput := [] }

end Sys2Proof.Machine
end

