-- ==== Sys2Proof/Machine/Alu16.lean ====
section
/-! DEFINITION. The meanings of the 16-bit arithmetic (43_alu16.md): the shared operations, then one meaning for
each instruction. A meaning runs after the opcode and the immediates have been fetched and charged (R132, R150). -/

namespace Sys2Proof.Machine

/-- `ADD HL,rr` (R230). -/
def addHlPair (p : Pair) : Op Unit := do
  internal
  updateCpu fun c =>
    (c.setHl (add16 c.hl (c.pair p) c.flags).1).setFlags (add16 c.hl (c.pair p) c.flags).2

/-- `INC rr` (R231). -/
def incPair (p : Pair) : Op Unit := do
  internal
  updateCpu fun c => c.setPair p (c.pair p + 1)

/-- `DEC rr` (R232). -/
def decPair (p : Pair) : Op Unit := do
  internal
  updateCpu fun c => c.setPair p (c.pair p - 1)

/-- `ADD SP,e` (R233). -/
def addSpImm (e : Byte) : Op Unit := do
  internal
  internal
  updateCpu fun c => ({ c with sp := (addSp8 c.sp e).1 } : Cpu).setFlags (addSp8 c.sp e).2

/-! ### One meaning for each instruction -/

/-- `INC BC` (R231). -/
def execIncBc (s : State) : Answer := answer (incPair .bc) s

/-- `ADD HL,BC` (R230). -/
def execAddHlBc (s : State) : Answer := answer (addHlPair .bc) s

/-- `DEC BC` (R232). -/
def execDecBc (s : State) : Answer := answer (decPair .bc) s

/-- `INC DE` (R231). -/
def execIncDe (s : State) : Answer := answer (incPair .de) s

/-- `ADD HL,DE` (R230). -/
def execAddHlDe (s : State) : Answer := answer (addHlPair .de) s

/-- `DEC DE` (R232). -/
def execDecDe (s : State) : Answer := answer (decPair .de) s

/-- `INC HL` (R231). -/
def execIncHl (s : State) : Answer := answer (incPair .hl) s

/-- `ADD HL,HL` (R230). -/
def execAddHlHl (s : State) : Answer := answer (addHlPair .hl) s

/-- `DEC HL` (R232). -/
def execDecHl (s : State) : Answer := answer (decPair .hl) s

/-- `INC SP` (R231). -/
def execIncSp (s : State) : Answer := answer (incPair .sp) s

/-- `ADD HL,SP` (R230). -/
def execAddHlSp (s : State) : Answer := answer (addHlPair .sp) s

/-- `DEC SP` (R232). -/
def execDecSp (s : State) : Answer := answer (decPair .sp) s

/-- `ADD SP,e` (R233). -/
def execAddSpE (e : Byte) (s : State) : Answer := answer (addSpImm e) s

end Sys2Proof.Machine
end

