-- ==== Sys2Proof/Machine/Alu8.lean ====
section
/-! DEFINITION. The meanings of the 8-bit arithmetic and logic (42_alu8.md): the shared operations, then one meaning for
each instruction. A meaning runs after the opcode and the immediates have been fetched and charged (R132, R150). -/

namespace Sys2Proof.Machine

/-- An operation on A with operand `v` (R192 to R215). -/
def Cpu.alu (c : Cpu) (op : AluOp) (v : Byte) : Cpu :=
  ({ c with a := (alu8 op c.a v c.flags).1 } : Cpu).setFlags (alu8 op c.a v c.flags).2

/-- The register form (R192, R195, R198, R201, R204, R207, R210, R213). -/
def aluReg (op : AluOp) (r : Reg8) : Op Unit := updateCpu fun c => c.alu op (c.reg8 r)

/-- The memory form (R193, R196, R199, R202, R205, R208, R211, R214). -/
def aluMem (op : AluOp) : Op Unit := do
  let hl ← look fun s => s.cpu.hl
  let v ← memRead hl
  updateCpu fun c => c.alu op v

/-- The immediate form (R194, R197, R200, R203, R206, R209, R212, R215). -/
def aluImm (op : AluOp) (n : Byte) : Op Unit := updateCpu fun c => c.alu op n

/-- `INC r` (R216). -/
def incReg (r : Reg8) : Op Unit :=
  updateCpu fun c => (c.setReg8 r (inc8 (c.reg8 r) c.flags).1).setFlags (inc8 (c.reg8 r) c.flags).2

/-- `INC (HL)` (R217). -/
def incMem : Op Unit := do
  let hl ← look fun s => s.cpu.hl
  let v ← memRead hl
  let f ← look fun s => s.cpu.flags
  memWrite hl (inc8 v f).1
  updateCpu fun c => c.setFlags (inc8 v f).2

/-- `DEC r` (R218). -/
def decReg (r : Reg8) : Op Unit :=
  updateCpu fun c => (c.setReg8 r (dec8 (c.reg8 r) c.flags).1).setFlags (dec8 (c.reg8 r) c.flags).2

/-- `DEC (HL)` (R219). -/
def decMem : Op Unit := do
  let hl ← look fun s => s.cpu.hl
  let v ← memRead hl
  let f ← look fun s => s.cpu.flags
  memWrite hl (dec8 v f).1
  updateCpu fun c => c.setFlags (dec8 v f).2

/-- `DAA` (R220). -/
def daaOp : Op Unit :=
  updateCpu fun c => ({ c with a := (daa8 c.a c.flags).1 } : Cpu).setFlags (daa8 c.a c.flags).2

/-- `CPL` (R221). -/
def cplOp : Op Unit :=
  updateCpu fun c => ({ c with a := (cpl8 c.a c.flags).1 } : Cpu).setFlags (cpl8 c.a c.flags).2

/-- `SCF` (R222). -/
def scfOp : Op Unit := updateCpu fun c => c.setFlags (scfFlags c.flags)

/-- `CCF` (R223). -/
def ccfOp : Op Unit := updateCpu fun c => c.setFlags (ccfFlags c.flags)

/-! ### One meaning for each instruction -/

/-- `INC B` (R216). -/
def execIncB (s : State) : Answer := answer (incReg .b) s

/-- `DEC B` (R218). -/
def execDecB (s : State) : Answer := answer (decReg .b) s

/-- `INC C` (R216). -/
def execIncC (s : State) : Answer := answer (incReg .c) s

/-- `DEC C` (R218). -/
def execDecC (s : State) : Answer := answer (decReg .c) s

/-- `INC D` (R216). -/
def execIncD (s : State) : Answer := answer (incReg .d) s

/-- `DEC D` (R218). -/
def execDecD (s : State) : Answer := answer (decReg .d) s

/-- `INC E` (R216). -/
def execIncE (s : State) : Answer := answer (incReg .e) s

/-- `DEC E` (R218). -/
def execDecE (s : State) : Answer := answer (decReg .e) s

/-- `INC H` (R216). -/
def execIncH (s : State) : Answer := answer (incReg .h) s

/-- `DEC H` (R218). -/
def execDecH (s : State) : Answer := answer (decReg .h) s

/-- `DAA` (R220). -/
def execDaa (s : State) : Answer := answer daaOp s

/-- `INC L` (R216). -/
def execIncL (s : State) : Answer := answer (incReg .l) s

/-- `DEC L` (R218). -/
def execDecL (s : State) : Answer := answer (decReg .l) s

/-- `CPL` (R221). -/
def execCpl (s : State) : Answer := answer cplOp s

/-- `INC (HL)` (R217). -/
def execIncMemHl (s : State) : Answer := answer incMem s

/-- `DEC (HL)` (R219). -/
def execDecMemHl (s : State) : Answer := answer decMem s

/-- `SCF` (R222). -/
def execScf (s : State) : Answer := answer scfOp s

/-- `INC A` (R216). -/
def execIncA (s : State) : Answer := answer (incReg .a) s

/-- `DEC A` (R218). -/
def execDecA (s : State) : Answer := answer (decReg .a) s

/-- `CCF` (R223). -/
def execCcf (s : State) : Answer := answer ccfOp s

/-- `ADD A,B` (R192). -/
def execAddAB (s : State) : Answer := answer (aluReg .add .b) s

/-- `ADD A,C` (R192). -/
def execAddAC (s : State) : Answer := answer (aluReg .add .c) s

/-- `ADD A,D` (R192). -/
def execAddAD (s : State) : Answer := answer (aluReg .add .d) s

/-- `ADD A,E` (R192). -/
def execAddAE (s : State) : Answer := answer (aluReg .add .e) s

/-- `ADD A,H` (R192). -/
def execAddAH (s : State) : Answer := answer (aluReg .add .h) s

/-- `ADD A,L` (R192). -/
def execAddAL (s : State) : Answer := answer (aluReg .add .l) s

/-- `ADD A,(HL)` (R193). -/
def execAddAMemHl (s : State) : Answer := answer (aluMem .add) s

/-- `ADD A,A` (R192). -/
def execAddAA (s : State) : Answer := answer (aluReg .add .a) s

/-- `ADC A,B` (R195). -/
def execAdcAB (s : State) : Answer := answer (aluReg .adc .b) s

/-- `ADC A,C` (R195). -/
def execAdcAC (s : State) : Answer := answer (aluReg .adc .c) s

/-- `ADC A,D` (R195). -/
def execAdcAD (s : State) : Answer := answer (aluReg .adc .d) s

/-- `ADC A,E` (R195). -/
def execAdcAE (s : State) : Answer := answer (aluReg .adc .e) s

/-- `ADC A,H` (R195). -/
def execAdcAH (s : State) : Answer := answer (aluReg .adc .h) s

/-- `ADC A,L` (R195). -/
def execAdcAL (s : State) : Answer := answer (aluReg .adc .l) s

/-- `ADC A,(HL)` (R196). -/
def execAdcAMemHl (s : State) : Answer := answer (aluMem .adc) s

/-- `ADC A,A` (R195). -/
def execAdcAA (s : State) : Answer := answer (aluReg .adc .a) s

/-- `SUB B` (R198). -/
def execSubB (s : State) : Answer := answer (aluReg .sub .b) s

/-- `SUB C` (R198). -/
def execSubC (s : State) : Answer := answer (aluReg .sub .c) s

/-- `SUB D` (R198). -/
def execSubD (s : State) : Answer := answer (aluReg .sub .d) s

/-- `SUB E` (R198). -/
def execSubE (s : State) : Answer := answer (aluReg .sub .e) s

/-- `SUB H` (R198). -/
def execSubH (s : State) : Answer := answer (aluReg .sub .h) s

/-- `SUB L` (R198). -/
def execSubL (s : State) : Answer := answer (aluReg .sub .l) s

/-- `SUB (HL)` (R199). -/
def execSubMemHl (s : State) : Answer := answer (aluMem .sub) s

/-- `SUB A` (R198). -/
def execSubA (s : State) : Answer := answer (aluReg .sub .a) s

/-- `SBC A,B` (R201). -/
def execSbcAB (s : State) : Answer := answer (aluReg .sbc .b) s

/-- `SBC A,C` (R201). -/
def execSbcAC (s : State) : Answer := answer (aluReg .sbc .c) s

/-- `SBC A,D` (R201). -/
def execSbcAD (s : State) : Answer := answer (aluReg .sbc .d) s

/-- `SBC A,E` (R201). -/
def execSbcAE (s : State) : Answer := answer (aluReg .sbc .e) s

/-- `SBC A,H` (R201). -/
def execSbcAH (s : State) : Answer := answer (aluReg .sbc .h) s

/-- `SBC A,L` (R201). -/
def execSbcAL (s : State) : Answer := answer (aluReg .sbc .l) s

/-- `SBC A,(HL)` (R202). -/
def execSbcAMemHl (s : State) : Answer := answer (aluMem .sbc) s

/-- `SBC A,A` (R201). -/
def execSbcAA (s : State) : Answer := answer (aluReg .sbc .a) s

/-- `AND B` (R204). -/
def execAndB (s : State) : Answer := answer (aluReg .and .b) s

/-- `AND C` (R204). -/
def execAndC (s : State) : Answer := answer (aluReg .and .c) s

/-- `AND D` (R204). -/
def execAndD (s : State) : Answer := answer (aluReg .and .d) s

/-- `AND E` (R204). -/
def execAndE (s : State) : Answer := answer (aluReg .and .e) s

/-- `AND H` (R204). -/
def execAndH (s : State) : Answer := answer (aluReg .and .h) s

/-- `AND L` (R204). -/
def execAndL (s : State) : Answer := answer (aluReg .and .l) s

/-- `AND (HL)` (R205). -/
def execAndMemHl (s : State) : Answer := answer (aluMem .and) s

/-- `AND A` (R204). -/
def execAndA (s : State) : Answer := answer (aluReg .and .a) s

/-- `XOR B` (R207). -/
def execXorB (s : State) : Answer := answer (aluReg .xor .b) s

/-- `XOR C` (R207). -/
def execXorC (s : State) : Answer := answer (aluReg .xor .c) s

/-- `XOR D` (R207). -/
def execXorD (s : State) : Answer := answer (aluReg .xor .d) s

/-- `XOR E` (R207). -/
def execXorE (s : State) : Answer := answer (aluReg .xor .e) s

/-- `XOR H` (R207). -/
def execXorH (s : State) : Answer := answer (aluReg .xor .h) s

/-- `XOR L` (R207). -/
def execXorL (s : State) : Answer := answer (aluReg .xor .l) s

/-- `XOR (HL)` (R208). -/
def execXorMemHl (s : State) : Answer := answer (aluMem .xor) s

/-- `XOR A` (R207). -/
def execXorA (s : State) : Answer := answer (aluReg .xor .a) s

/-- `OR B` (R210). -/
def execOrB (s : State) : Answer := answer (aluReg .or .b) s

/-- `OR C` (R210). -/
def execOrC (s : State) : Answer := answer (aluReg .or .c) s

/-- `OR D` (R210). -/
def execOrD (s : State) : Answer := answer (aluReg .or .d) s

/-- `OR E` (R210). -/
def execOrE (s : State) : Answer := answer (aluReg .or .e) s

/-- `OR H` (R210). -/
def execOrH (s : State) : Answer := answer (aluReg .or .h) s

/-- `OR L` (R210). -/
def execOrL (s : State) : Answer := answer (aluReg .or .l) s

/-- `OR (HL)` (R211). -/
def execOrMemHl (s : State) : Answer := answer (aluMem .or) s

/-- `OR A` (R210). -/
def execOrA (s : State) : Answer := answer (aluReg .or .a) s

/-- `CP B` (R213). -/
def execCpB (s : State) : Answer := answer (aluReg .cp .b) s

/-- `CP C` (R213). -/
def execCpC (s : State) : Answer := answer (aluReg .cp .c) s

/-- `CP D` (R213). -/
def execCpD (s : State) : Answer := answer (aluReg .cp .d) s

/-- `CP E` (R213). -/
def execCpE (s : State) : Answer := answer (aluReg .cp .e) s

/-- `CP H` (R213). -/
def execCpH (s : State) : Answer := answer (aluReg .cp .h) s

/-- `CP L` (R213). -/
def execCpL (s : State) : Answer := answer (aluReg .cp .l) s

/-- `CP (HL)` (R214). -/
def execCpMemHl (s : State) : Answer := answer (aluMem .cp) s

/-- `CP A` (R213). -/
def execCpA (s : State) : Answer := answer (aluReg .cp .a) s

/-- `ADD A,n` (R194). -/
def execAddAN (n : Byte) (s : State) : Answer := answer (aluImm .add n) s

/-- `ADC A,n` (R197). -/
def execAdcAN (n : Byte) (s : State) : Answer := answer (aluImm .adc n) s

/-- `SUB n` (R200). -/
def execSubN (n : Byte) (s : State) : Answer := answer (aluImm .sub n) s

/-- `SBC A,n` (R203). -/
def execSbcAN (n : Byte) (s : State) : Answer := answer (aluImm .sbc n) s

/-- `AND n` (R206). -/
def execAndN (n : Byte) (s : State) : Answer := answer (aluImm .and n) s

/-- `XOR n` (R209). -/
def execXorN (n : Byte) (s : State) : Answer := answer (aluImm .xor n) s

/-- `OR n` (R212). -/
def execOrN (n : Byte) (s : State) : Answer := answer (aluImm .or n) s

/-- `CP n` (R215). -/
def execCpN (n : Byte) (s : State) : Answer := answer (aluImm .cp n) s

end Sys2Proof.Machine
end

