-- ==== Sys2Proof/Machine/Bit.lean ====
section
/-! DEFINITION. The meanings of the BIT, RES and SET (44_rotate_shift_bit.md section 3): the shared operations, then one meaning for
each instruction. A meaning runs after the opcode and the immediates have been fetched and charged (R132, R150). -/

namespace Sys2Proof.Machine

/-- `BIT b,r` (R260). -/
def bitReg (b : Fin 8) (r : Reg8) : Op Unit :=
  updateCpu fun c => c.setFlags (bitFlags b (c.reg8 r) c.flags)

/-- `BIT b,(HL)` (R261). -/
def bitMem (b : Fin 8) : Op Unit := do
  let hl ← look fun s => s.cpu.hl
  let v ← memRead hl
  updateCpu fun c => c.setFlags (bitFlags b v c.flags)

/-- `RES b,r` (R262). -/
def resReg (b : Fin 8) (r : Reg8) : Op Unit := updateCpu fun c => c.setReg8 r (resBit b (c.reg8 r))

/-- `RES b,(HL)` (R263). -/
def resMem (b : Fin 8) : Op Unit := do
  let hl ← look fun s => s.cpu.hl
  let v ← memRead hl
  memWrite hl (resBit b v)

/-- `SET b,r` (R264). -/
def setReg (b : Fin 8) (r : Reg8) : Op Unit := updateCpu fun c => c.setReg8 r (setBit b (c.reg8 r))

/-- `SET b,(HL)` (R265). -/
def setMem (b : Fin 8) : Op Unit := do
  let hl ← look fun s => s.cpu.hl
  let v ← memRead hl
  memWrite hl (setBit b v)

/-! ### One meaning for each instruction -/

/-- `BIT 0,B` (R260). -/
def execBit0B (s : State) : Answer := answer (bitReg 0 .b) s

/-- `BIT 0,C` (R260). -/
def execBit0C (s : State) : Answer := answer (bitReg 0 .c) s

/-- `BIT 0,D` (R260). -/
def execBit0D (s : State) : Answer := answer (bitReg 0 .d) s

/-- `BIT 0,E` (R260). -/
def execBit0E (s : State) : Answer := answer (bitReg 0 .e) s

/-- `BIT 0,H` (R260). -/
def execBit0H (s : State) : Answer := answer (bitReg 0 .h) s

/-- `BIT 0,L` (R260). -/
def execBit0L (s : State) : Answer := answer (bitReg 0 .l) s

/-- `BIT 0,(HL)` (R261). -/
def execBit0MemHl (s : State) : Answer := answer (bitMem 0) s

/-- `BIT 0,A` (R260). -/
def execBit0A (s : State) : Answer := answer (bitReg 0 .a) s

/-- `BIT 1,B` (R260). -/
def execBit1B (s : State) : Answer := answer (bitReg 1 .b) s

/-- `BIT 1,C` (R260). -/
def execBit1C (s : State) : Answer := answer (bitReg 1 .c) s

/-- `BIT 1,D` (R260). -/
def execBit1D (s : State) : Answer := answer (bitReg 1 .d) s

/-- `BIT 1,E` (R260). -/
def execBit1E (s : State) : Answer := answer (bitReg 1 .e) s

/-- `BIT 1,H` (R260). -/
def execBit1H (s : State) : Answer := answer (bitReg 1 .h) s

/-- `BIT 1,L` (R260). -/
def execBit1L (s : State) : Answer := answer (bitReg 1 .l) s

/-- `BIT 1,(HL)` (R261). -/
def execBit1MemHl (s : State) : Answer := answer (bitMem 1) s

/-- `BIT 1,A` (R260). -/
def execBit1A (s : State) : Answer := answer (bitReg 1 .a) s

/-- `BIT 2,B` (R260). -/
def execBit2B (s : State) : Answer := answer (bitReg 2 .b) s

/-- `BIT 2,C` (R260). -/
def execBit2C (s : State) : Answer := answer (bitReg 2 .c) s

/-- `BIT 2,D` (R260). -/
def execBit2D (s : State) : Answer := answer (bitReg 2 .d) s

/-- `BIT 2,E` (R260). -/
def execBit2E (s : State) : Answer := answer (bitReg 2 .e) s

/-- `BIT 2,H` (R260). -/
def execBit2H (s : State) : Answer := answer (bitReg 2 .h) s

/-- `BIT 2,L` (R260). -/
def execBit2L (s : State) : Answer := answer (bitReg 2 .l) s

/-- `BIT 2,(HL)` (R261). -/
def execBit2MemHl (s : State) : Answer := answer (bitMem 2) s

/-- `BIT 2,A` (R260). -/
def execBit2A (s : State) : Answer := answer (bitReg 2 .a) s

/-- `BIT 3,B` (R260). -/
def execBit3B (s : State) : Answer := answer (bitReg 3 .b) s

/-- `BIT 3,C` (R260). -/
def execBit3C (s : State) : Answer := answer (bitReg 3 .c) s

/-- `BIT 3,D` (R260). -/
def execBit3D (s : State) : Answer := answer (bitReg 3 .d) s

/-- `BIT 3,E` (R260). -/
def execBit3E (s : State) : Answer := answer (bitReg 3 .e) s

/-- `BIT 3,H` (R260). -/
def execBit3H (s : State) : Answer := answer (bitReg 3 .h) s

/-- `BIT 3,L` (R260). -/
def execBit3L (s : State) : Answer := answer (bitReg 3 .l) s

/-- `BIT 3,(HL)` (R261). -/
def execBit3MemHl (s : State) : Answer := answer (bitMem 3) s

/-- `BIT 3,A` (R260). -/
def execBit3A (s : State) : Answer := answer (bitReg 3 .a) s

/-- `BIT 4,B` (R260). -/
def execBit4B (s : State) : Answer := answer (bitReg 4 .b) s

/-- `BIT 4,C` (R260). -/
def execBit4C (s : State) : Answer := answer (bitReg 4 .c) s

/-- `BIT 4,D` (R260). -/
def execBit4D (s : State) : Answer := answer (bitReg 4 .d) s

/-- `BIT 4,E` (R260). -/
def execBit4E (s : State) : Answer := answer (bitReg 4 .e) s

/-- `BIT 4,H` (R260). -/
def execBit4H (s : State) : Answer := answer (bitReg 4 .h) s

/-- `BIT 4,L` (R260). -/
def execBit4L (s : State) : Answer := answer (bitReg 4 .l) s

/-- `BIT 4,(HL)` (R261). -/
def execBit4MemHl (s : State) : Answer := answer (bitMem 4) s

/-- `BIT 4,A` (R260). -/
def execBit4A (s : State) : Answer := answer (bitReg 4 .a) s

/-- `BIT 5,B` (R260). -/
def execBit5B (s : State) : Answer := answer (bitReg 5 .b) s

/-- `BIT 5,C` (R260). -/
def execBit5C (s : State) : Answer := answer (bitReg 5 .c) s

/-- `BIT 5,D` (R260). -/
def execBit5D (s : State) : Answer := answer (bitReg 5 .d) s

/-- `BIT 5,E` (R260). -/
def execBit5E (s : State) : Answer := answer (bitReg 5 .e) s

/-- `BIT 5,H` (R260). -/
def execBit5H (s : State) : Answer := answer (bitReg 5 .h) s

/-- `BIT 5,L` (R260). -/
def execBit5L (s : State) : Answer := answer (bitReg 5 .l) s

/-- `BIT 5,(HL)` (R261). -/
def execBit5MemHl (s : State) : Answer := answer (bitMem 5) s

/-- `BIT 5,A` (R260). -/
def execBit5A (s : State) : Answer := answer (bitReg 5 .a) s

/-- `BIT 6,B` (R260). -/
def execBit6B (s : State) : Answer := answer (bitReg 6 .b) s

/-- `BIT 6,C` (R260). -/
def execBit6C (s : State) : Answer := answer (bitReg 6 .c) s

/-- `BIT 6,D` (R260). -/
def execBit6D (s : State) : Answer := answer (bitReg 6 .d) s

/-- `BIT 6,E` (R260). -/
def execBit6E (s : State) : Answer := answer (bitReg 6 .e) s

/-- `BIT 6,H` (R260). -/
def execBit6H (s : State) : Answer := answer (bitReg 6 .h) s

/-- `BIT 6,L` (R260). -/
def execBit6L (s : State) : Answer := answer (bitReg 6 .l) s

/-- `BIT 6,(HL)` (R261). -/
def execBit6MemHl (s : State) : Answer := answer (bitMem 6) s

/-- `BIT 6,A` (R260). -/
def execBit6A (s : State) : Answer := answer (bitReg 6 .a) s

/-- `BIT 7,B` (R260). -/
def execBit7B (s : State) : Answer := answer (bitReg 7 .b) s

/-- `BIT 7,C` (R260). -/
def execBit7C (s : State) : Answer := answer (bitReg 7 .c) s

/-- `BIT 7,D` (R260). -/
def execBit7D (s : State) : Answer := answer (bitReg 7 .d) s

/-- `BIT 7,E` (R260). -/
def execBit7E (s : State) : Answer := answer (bitReg 7 .e) s

/-- `BIT 7,H` (R260). -/
def execBit7H (s : State) : Answer := answer (bitReg 7 .h) s

/-- `BIT 7,L` (R260). -/
def execBit7L (s : State) : Answer := answer (bitReg 7 .l) s

/-- `BIT 7,(HL)` (R261). -/
def execBit7MemHl (s : State) : Answer := answer (bitMem 7) s

/-- `BIT 7,A` (R260). -/
def execBit7A (s : State) : Answer := answer (bitReg 7 .a) s

/-- `RES 0,B` (R262). -/
def execRes0B (s : State) : Answer := answer (resReg 0 .b) s

/-- `RES 0,C` (R262). -/
def execRes0C (s : State) : Answer := answer (resReg 0 .c) s

/-- `RES 0,D` (R262). -/
def execRes0D (s : State) : Answer := answer (resReg 0 .d) s

/-- `RES 0,E` (R262). -/
def execRes0E (s : State) : Answer := answer (resReg 0 .e) s

/-- `RES 0,H` (R262). -/
def execRes0H (s : State) : Answer := answer (resReg 0 .h) s

/-- `RES 0,L` (R262). -/
def execRes0L (s : State) : Answer := answer (resReg 0 .l) s

/-- `RES 0,(HL)` (R263). -/
def execRes0MemHl (s : State) : Answer := answer (resMem 0) s

/-- `RES 0,A` (R262). -/
def execRes0A (s : State) : Answer := answer (resReg 0 .a) s

/-- `RES 1,B` (R262). -/
def execRes1B (s : State) : Answer := answer (resReg 1 .b) s

/-- `RES 1,C` (R262). -/
def execRes1C (s : State) : Answer := answer (resReg 1 .c) s

/-- `RES 1,D` (R262). -/
def execRes1D (s : State) : Answer := answer (resReg 1 .d) s

/-- `RES 1,E` (R262). -/
def execRes1E (s : State) : Answer := answer (resReg 1 .e) s

/-- `RES 1,H` (R262). -/
def execRes1H (s : State) : Answer := answer (resReg 1 .h) s

/-- `RES 1,L` (R262). -/
def execRes1L (s : State) : Answer := answer (resReg 1 .l) s

/-- `RES 1,(HL)` (R263). -/
def execRes1MemHl (s : State) : Answer := answer (resMem 1) s

/-- `RES 1,A` (R262). -/
def execRes1A (s : State) : Answer := answer (resReg 1 .a) s

/-- `RES 2,B` (R262). -/
def execRes2B (s : State) : Answer := answer (resReg 2 .b) s

/-- `RES 2,C` (R262). -/
def execRes2C (s : State) : Answer := answer (resReg 2 .c) s

/-- `RES 2,D` (R262). -/
def execRes2D (s : State) : Answer := answer (resReg 2 .d) s

/-- `RES 2,E` (R262). -/
def execRes2E (s : State) : Answer := answer (resReg 2 .e) s

/-- `RES 2,H` (R262). -/
def execRes2H (s : State) : Answer := answer (resReg 2 .h) s

/-- `RES 2,L` (R262). -/
def execRes2L (s : State) : Answer := answer (resReg 2 .l) s

/-- `RES 2,(HL)` (R263). -/
def execRes2MemHl (s : State) : Answer := answer (resMem 2) s

/-- `RES 2,A` (R262). -/
def execRes2A (s : State) : Answer := answer (resReg 2 .a) s

/-- `RES 3,B` (R262). -/
def execRes3B (s : State) : Answer := answer (resReg 3 .b) s

/-- `RES 3,C` (R262). -/
def execRes3C (s : State) : Answer := answer (resReg 3 .c) s

/-- `RES 3,D` (R262). -/
def execRes3D (s : State) : Answer := answer (resReg 3 .d) s

/-- `RES 3,E` (R262). -/
def execRes3E (s : State) : Answer := answer (resReg 3 .e) s

/-- `RES 3,H` (R262). -/
def execRes3H (s : State) : Answer := answer (resReg 3 .h) s

/-- `RES 3,L` (R262). -/
def execRes3L (s : State) : Answer := answer (resReg 3 .l) s

/-- `RES 3,(HL)` (R263). -/
def execRes3MemHl (s : State) : Answer := answer (resMem 3) s

/-- `RES 3,A` (R262). -/
def execRes3A (s : State) : Answer := answer (resReg 3 .a) s

/-- `RES 4,B` (R262). -/
def execRes4B (s : State) : Answer := answer (resReg 4 .b) s

/-- `RES 4,C` (R262). -/
def execRes4C (s : State) : Answer := answer (resReg 4 .c) s

/-- `RES 4,D` (R262). -/
def execRes4D (s : State) : Answer := answer (resReg 4 .d) s

/-- `RES 4,E` (R262). -/
def execRes4E (s : State) : Answer := answer (resReg 4 .e) s

/-- `RES 4,H` (R262). -/
def execRes4H (s : State) : Answer := answer (resReg 4 .h) s

/-- `RES 4,L` (R262). -/
def execRes4L (s : State) : Answer := answer (resReg 4 .l) s

/-- `RES 4,(HL)` (R263). -/
def execRes4MemHl (s : State) : Answer := answer (resMem 4) s

/-- `RES 4,A` (R262). -/
def execRes4A (s : State) : Answer := answer (resReg 4 .a) s

/-- `RES 5,B` (R262). -/
def execRes5B (s : State) : Answer := answer (resReg 5 .b) s

/-- `RES 5,C` (R262). -/
def execRes5C (s : State) : Answer := answer (resReg 5 .c) s

/-- `RES 5,D` (R262). -/
def execRes5D (s : State) : Answer := answer (resReg 5 .d) s

/-- `RES 5,E` (R262). -/
def execRes5E (s : State) : Answer := answer (resReg 5 .e) s

/-- `RES 5,H` (R262). -/
def execRes5H (s : State) : Answer := answer (resReg 5 .h) s

/-- `RES 5,L` (R262). -/
def execRes5L (s : State) : Answer := answer (resReg 5 .l) s

/-- `RES 5,(HL)` (R263). -/
def execRes5MemHl (s : State) : Answer := answer (resMem 5) s

/-- `RES 5,A` (R262). -/
def execRes5A (s : State) : Answer := answer (resReg 5 .a) s

/-- `RES 6,B` (R262). -/
def execRes6B (s : State) : Answer := answer (resReg 6 .b) s

/-- `RES 6,C` (R262). -/
def execRes6C (s : State) : Answer := answer (resReg 6 .c) s

/-- `RES 6,D` (R262). -/
def execRes6D (s : State) : Answer := answer (resReg 6 .d) s

/-- `RES 6,E` (R262). -/
def execRes6E (s : State) : Answer := answer (resReg 6 .e) s

/-- `RES 6,H` (R262). -/
def execRes6H (s : State) : Answer := answer (resReg 6 .h) s

/-- `RES 6,L` (R262). -/
def execRes6L (s : State) : Answer := answer (resReg 6 .l) s

/-- `RES 6,(HL)` (R263). -/
def execRes6MemHl (s : State) : Answer := answer (resMem 6) s

/-- `RES 6,A` (R262). -/
def execRes6A (s : State) : Answer := answer (resReg 6 .a) s

/-- `RES 7,B` (R262). -/
def execRes7B (s : State) : Answer := answer (resReg 7 .b) s

/-- `RES 7,C` (R262). -/
def execRes7C (s : State) : Answer := answer (resReg 7 .c) s

/-- `RES 7,D` (R262). -/
def execRes7D (s : State) : Answer := answer (resReg 7 .d) s

/-- `RES 7,E` (R262). -/
def execRes7E (s : State) : Answer := answer (resReg 7 .e) s

/-- `RES 7,H` (R262). -/
def execRes7H (s : State) : Answer := answer (resReg 7 .h) s

/-- `RES 7,L` (R262). -/
def execRes7L (s : State) : Answer := answer (resReg 7 .l) s

/-- `RES 7,(HL)` (R263). -/
def execRes7MemHl (s : State) : Answer := answer (resMem 7) s

/-- `RES 7,A` (R262). -/
def execRes7A (s : State) : Answer := answer (resReg 7 .a) s

/-- `SET 0,B` (R264). -/
def execSet0B (s : State) : Answer := answer (setReg 0 .b) s

/-- `SET 0,C` (R264). -/
def execSet0C (s : State) : Answer := answer (setReg 0 .c) s

/-- `SET 0,D` (R264). -/
def execSet0D (s : State) : Answer := answer (setReg 0 .d) s

/-- `SET 0,E` (R264). -/
def execSet0E (s : State) : Answer := answer (setReg 0 .e) s

/-- `SET 0,H` (R264). -/
def execSet0H (s : State) : Answer := answer (setReg 0 .h) s

/-- `SET 0,L` (R264). -/
def execSet0L (s : State) : Answer := answer (setReg 0 .l) s

/-- `SET 0,(HL)` (R265). -/
def execSet0MemHl (s : State) : Answer := answer (setMem 0) s

/-- `SET 0,A` (R264). -/
def execSet0A (s : State) : Answer := answer (setReg 0 .a) s

/-- `SET 1,B` (R264). -/
def execSet1B (s : State) : Answer := answer (setReg 1 .b) s

/-- `SET 1,C` (R264). -/
def execSet1C (s : State) : Answer := answer (setReg 1 .c) s

/-- `SET 1,D` (R264). -/
def execSet1D (s : State) : Answer := answer (setReg 1 .d) s

/-- `SET 1,E` (R264). -/
def execSet1E (s : State) : Answer := answer (setReg 1 .e) s

/-- `SET 1,H` (R264). -/
def execSet1H (s : State) : Answer := answer (setReg 1 .h) s

/-- `SET 1,L` (R264). -/
def execSet1L (s : State) : Answer := answer (setReg 1 .l) s

/-- `SET 1,(HL)` (R265). -/
def execSet1MemHl (s : State) : Answer := answer (setMem 1) s

/-- `SET 1,A` (R264). -/
def execSet1A (s : State) : Answer := answer (setReg 1 .a) s

/-- `SET 2,B` (R264). -/
def execSet2B (s : State) : Answer := answer (setReg 2 .b) s

/-- `SET 2,C` (R264). -/
def execSet2C (s : State) : Answer := answer (setReg 2 .c) s

/-- `SET 2,D` (R264). -/
def execSet2D (s : State) : Answer := answer (setReg 2 .d) s

/-- `SET 2,E` (R264). -/
def execSet2E (s : State) : Answer := answer (setReg 2 .e) s

/-- `SET 2,H` (R264). -/
def execSet2H (s : State) : Answer := answer (setReg 2 .h) s

/-- `SET 2,L` (R264). -/
def execSet2L (s : State) : Answer := answer (setReg 2 .l) s

/-- `SET 2,(HL)` (R265). -/
def execSet2MemHl (s : State) : Answer := answer (setMem 2) s

/-- `SET 2,A` (R264). -/
def execSet2A (s : State) : Answer := answer (setReg 2 .a) s

/-- `SET 3,B` (R264). -/
def execSet3B (s : State) : Answer := answer (setReg 3 .b) s

/-- `SET 3,C` (R264). -/
def execSet3C (s : State) : Answer := answer (setReg 3 .c) s

/-- `SET 3,D` (R264). -/
def execSet3D (s : State) : Answer := answer (setReg 3 .d) s

/-- `SET 3,E` (R264). -/
def execSet3E (s : State) : Answer := answer (setReg 3 .e) s

/-- `SET 3,H` (R264). -/
def execSet3H (s : State) : Answer := answer (setReg 3 .h) s

/-- `SET 3,L` (R264). -/
def execSet3L (s : State) : Answer := answer (setReg 3 .l) s

/-- `SET 3,(HL)` (R265). -/
def execSet3MemHl (s : State) : Answer := answer (setMem 3) s

/-- `SET 3,A` (R264). -/
def execSet3A (s : State) : Answer := answer (setReg 3 .a) s

/-- `SET 4,B` (R264). -/
def execSet4B (s : State) : Answer := answer (setReg 4 .b) s

/-- `SET 4,C` (R264). -/
def execSet4C (s : State) : Answer := answer (setReg 4 .c) s

/-- `SET 4,D` (R264). -/
def execSet4D (s : State) : Answer := answer (setReg 4 .d) s

/-- `SET 4,E` (R264). -/
def execSet4E (s : State) : Answer := answer (setReg 4 .e) s

/-- `SET 4,H` (R264). -/
def execSet4H (s : State) : Answer := answer (setReg 4 .h) s

/-- `SET 4,L` (R264). -/
def execSet4L (s : State) : Answer := answer (setReg 4 .l) s

/-- `SET 4,(HL)` (R265). -/
def execSet4MemHl (s : State) : Answer := answer (setMem 4) s

/-- `SET 4,A` (R264). -/
def execSet4A (s : State) : Answer := answer (setReg 4 .a) s

/-- `SET 5,B` (R264). -/
def execSet5B (s : State) : Answer := answer (setReg 5 .b) s

/-- `SET 5,C` (R264). -/
def execSet5C (s : State) : Answer := answer (setReg 5 .c) s

/-- `SET 5,D` (R264). -/
def execSet5D (s : State) : Answer := answer (setReg 5 .d) s

/-- `SET 5,E` (R264). -/
def execSet5E (s : State) : Answer := answer (setReg 5 .e) s

/-- `SET 5,H` (R264). -/
def execSet5H (s : State) : Answer := answer (setReg 5 .h) s

/-- `SET 5,L` (R264). -/
def execSet5L (s : State) : Answer := answer (setReg 5 .l) s

/-- `SET 5,(HL)` (R265). -/
def execSet5MemHl (s : State) : Answer := answer (setMem 5) s

/-- `SET 5,A` (R264). -/
def execSet5A (s : State) : Answer := answer (setReg 5 .a) s

/-- `SET 6,B` (R264). -/
def execSet6B (s : State) : Answer := answer (setReg 6 .b) s

/-- `SET 6,C` (R264). -/
def execSet6C (s : State) : Answer := answer (setReg 6 .c) s

/-- `SET 6,D` (R264). -/
def execSet6D (s : State) : Answer := answer (setReg 6 .d) s

/-- `SET 6,E` (R264). -/
def execSet6E (s : State) : Answer := answer (setReg 6 .e) s

/-- `SET 6,H` (R264). -/
def execSet6H (s : State) : Answer := answer (setReg 6 .h) s

/-- `SET 6,L` (R264). -/
def execSet6L (s : State) : Answer := answer (setReg 6 .l) s

/-- `SET 6,(HL)` (R265). -/
def execSet6MemHl (s : State) : Answer := answer (setMem 6) s

/-- `SET 6,A` (R264). -/
def execSet6A (s : State) : Answer := answer (setReg 6 .a) s

/-- `SET 7,B` (R264). -/
def execSet7B (s : State) : Answer := answer (setReg 7 .b) s

/-- `SET 7,C` (R264). -/
def execSet7C (s : State) : Answer := answer (setReg 7 .c) s

/-- `SET 7,D` (R264). -/
def execSet7D (s : State) : Answer := answer (setReg 7 .d) s

/-- `SET 7,E` (R264). -/
def execSet7E (s : State) : Answer := answer (setReg 7 .e) s

/-- `SET 7,H` (R264). -/
def execSet7H (s : State) : Answer := answer (setReg 7 .h) s

/-- `SET 7,L` (R264). -/
def execSet7L (s : State) : Answer := answer (setReg 7 .l) s

/-- `SET 7,(HL)` (R265). -/
def execSet7MemHl (s : State) : Answer := answer (setMem 7) s

/-- `SET 7,A` (R264). -/
def execSet7A (s : State) : Answer := answer (setReg 7 .a) s

end Sys2Proof.Machine
end

