-- ==== Sys2Proof/Machine/Control.lean ====
section
/-! DEFINITION. The meanings of the control transfer (45_control_flow.md). Immediates are fetched before the meaning runs (R132): the shared operations, then one meaning for
each instruction. A meaning runs after the opcode and the immediates have been fetched and charged (R132, R150). -/

namespace Sys2Proof.Machine

/-- An absolute jump after its immediate (R271). -/
def jpOp (nn : BitVec 16) : Op Unit := do
  internal
  jumpTo nn

/-- `JP HL` (R272). -/
def jpHlOp : Op Unit := updateCpu fun c => { c with pc := c.hl }

/-- Do an operation when the condition holds (R270). -/
def whenCond (cc : Cond) (op : Op Unit) : Op Unit := do
  let taken ← look fun s => s.cpu.cond cc
  if taken then op else pure ()

/-- `JP cc,nn` (R273). -/
def jpCondOp (cc : Cond) (nn : BitVec 16) : Op Unit := whenCond cc (jpOp nn)

/-- `JR e` (R274); `pc` is past the displacement by now. -/
def jrOp (e : Byte) : Op Unit := do
  internal
  updateCpu fun c => { c with pc := c.pc + sext16 e }

/-- `JR cc,e` (R275). -/
def jrCondOp (cc : Cond) (e : Byte) : Op Unit := whenCond cc (jrOp e)

/-- Push `pc` and go to a target after one internal cycle (R276, R283). -/
def callOp (target : Addr) : Op Unit := do
  internal
  let pc ← look fun s => s.cpu.pc
  push16 pc
  jumpTo target

/-- `CALL cc,nn` (R277). -/
def callCondOp (cc : Cond) (nn : BitVec 16) : Op Unit := whenCond cc (callOp nn)

/-- `RET` (R278). -/
def retOp : Op Unit := returnOp

/-- `RET cc`: one internal cycle either way (R279). -/
def retCondOp (cc : Cond) : Op Unit := do
  internal
  whenCond cc returnOp

/-- `RETI` (R280). -/
def retiOp : Op Unit := returnFromInterrupt

/-- The target of `RST`, `zext_16(y * 8)` (R129). -/
def rstTarget (y : Fin 8) : Addr := BitVec.ofNat 16 (8 * y.val)

/-- `RST t` (R283). -/
def rstOp (y : Fin 8) : Op Unit := callOp (rstTarget y)

/-! ### One meaning for each instruction -/

/-- `JR e` (R274). -/
def execJrE (e : Byte) (s : State) : Answer := answer (jrOp e) s

/-- `JR NZ,e` (R275). -/
def execJrNzE (e : Byte) (s : State) : Answer := answer (jrCondOp .nz e) s

/-- `JR Z,e` (R275). -/
def execJrZE (e : Byte) (s : State) : Answer := answer (jrCondOp .z e) s

/-- `JR NC,e` (R275). -/
def execJrNcE (e : Byte) (s : State) : Answer := answer (jrCondOp .nc e) s

/-- `JR C,e` (R275). -/
def execJrCE (e : Byte) (s : State) : Answer := answer (jrCondOp .c e) s

/-- `RET NZ` (R279). -/
def execRetNz (s : State) : Answer := answer (retCondOp .nz) s

/-- `JP NZ,nn` (R273). -/
def execJpNzNn (nn : BitVec 16) (s : State) : Answer := answer (jpCondOp .nz nn) s

/-- `JP nn` (R271). -/
def execJpNn (nn : BitVec 16) (s : State) : Answer := answer (jpOp nn) s

/-- `CALL NZ,nn` (R277). -/
def execCallNzNn (nn : BitVec 16) (s : State) : Answer := answer (callCondOp .nz nn) s

/-- `RST 0x00` (R283). -/
def execRst00 (s : State) : Answer := answer (rstOp 0) s

/-- `RET Z` (R279). -/
def execRetZ (s : State) : Answer := answer (retCondOp .z) s

/-- `RET` (R278). -/
def execRet (s : State) : Answer := answer retOp s

/-- `JP Z,nn` (R273). -/
def execJpZNn (nn : BitVec 16) (s : State) : Answer := answer (jpCondOp .z nn) s

/-- `CALL Z,nn` (R277). -/
def execCallZNn (nn : BitVec 16) (s : State) : Answer := answer (callCondOp .z nn) s

/-- `CALL nn` (R276). -/
def execCallNn (nn : BitVec 16) (s : State) : Answer := answer (callOp nn) s

/-- `RST 0x08` (R283). -/
def execRst08 (s : State) : Answer := answer (rstOp 1) s

/-- `RET NC` (R279). -/
def execRetNc (s : State) : Answer := answer (retCondOp .nc) s

/-- `JP NC,nn` (R273). -/
def execJpNcNn (nn : BitVec 16) (s : State) : Answer := answer (jpCondOp .nc nn) s

/-- `CALL NC,nn` (R277). -/
def execCallNcNn (nn : BitVec 16) (s : State) : Answer := answer (callCondOp .nc nn) s

/-- `RST 0x10` (R283). -/
def execRst10 (s : State) : Answer := answer (rstOp 2) s

/-- `RET C` (R279). -/
def execRetC (s : State) : Answer := answer (retCondOp .c) s

/-- `RETI` (R280). -/
def execReti (s : State) : Answer := answer retiOp s

/-- `JP C,nn` (R273). -/
def execJpCNn (nn : BitVec 16) (s : State) : Answer := answer (jpCondOp .c nn) s

/-- `CALL C,nn` (R277). -/
def execCallCNn (nn : BitVec 16) (s : State) : Answer := answer (callCondOp .c nn) s

/-- `RST 0x18` (R283). -/
def execRst18 (s : State) : Answer := answer (rstOp 3) s

/-- `RST 0x20` (R283). -/
def execRst20 (s : State) : Answer := answer (rstOp 4) s

/-- `JP HL` (R272). -/
def execJpHl (s : State) : Answer := answer jpHlOp s

/-- `RST 0x28` (R283). -/
def execRst28 (s : State) : Answer := answer (rstOp 5) s

/-- `RST 0x30` (R283). -/
def execRst30 (s : State) : Answer := answer (rstOp 6) s

/-- `RST 0x38` (R283). -/
def execRst38 (s : State) : Answer := answer (rstOp 7) s

end Sys2Proof.Machine
end

