-- ==== Sys2Proof/Machine/Load16.lean ====
section
/-! DEFINITION. The meanings of the 16-bit loads and the stack (41_load16_stack.md): the shared operations, then one meaning for
each instruction. A meaning runs after the opcode and the immediates have been fetched and charged (R132, R150). -/

namespace Sys2Proof.Machine

/-- `LD rr,nn` (R180). -/
def ldPairImm (p : Pair) (nn : BitVec 16) : Op Unit := updateCpu fun c => c.setPair p nn

/-- `LD (nn),SP` (R181). -/
def ldMemSp (nn : BitVec 16) : Op Unit := do
  let sp ← look fun s => s.cpu.sp
  memWrite nn (loByte sp)
  memWrite (nn + 1) (hiByte sp)

/-- `LD SP,HL` (R182). -/
def ldSpFromHl : Op Unit := do
  internal
  updateCpu fun c => { c with sp := c.hl }

/-- `LD HL,SP+e` (R183). -/
def ldHlSpImm (e : Byte) : Op Unit := do
  internal
  updateCpu fun c => (c.setHl (addSp8 c.sp e).1).setFlags (addSp8 c.sp e).2

/-- `PUSH rr` (R184). -/
def pushPair (p : StackPair) : Op Unit := do
  internal
  let v ← look fun s => s.cpu.stackPair p
  push16 v

/-- `POP rr` (R185). -/
def popPair (p : StackPair) : Op Unit := do
  let v ← pop16
  updateCpu fun c => c.setStackPair p v

/-! ### One meaning for each instruction -/

/-- `LD BC,nn` (R180). -/
def execLdBcNn (nn : BitVec 16) (s : State) : Answer := answer (ldPairImm .bc nn) s

/-- `LD (nn),SP` (R181). -/
def execLdMemNnSp (nn : BitVec 16) (s : State) : Answer := answer (ldMemSp nn) s

/-- `LD DE,nn` (R180). -/
def execLdDeNn (nn : BitVec 16) (s : State) : Answer := answer (ldPairImm .de nn) s

/-- `LD HL,nn` (R180). -/
def execLdHlNn (nn : BitVec 16) (s : State) : Answer := answer (ldPairImm .hl nn) s

/-- `LD SP,nn` (R180). -/
def execLdSpNn (nn : BitVec 16) (s : State) : Answer := answer (ldPairImm .sp nn) s

/-- `POP BC` (R185). -/
def execPopBc (s : State) : Answer := answer (popPair .bc) s

/-- `PUSH BC` (R184). -/
def execPushBc (s : State) : Answer := answer (pushPair .bc) s

/-- `POP DE` (R185). -/
def execPopDe (s : State) : Answer := answer (popPair .de) s

/-- `PUSH DE` (R184). -/
def execPushDe (s : State) : Answer := answer (pushPair .de) s

/-- `POP HL` (R185). -/
def execPopHl (s : State) : Answer := answer (popPair .hl) s

/-- `PUSH HL` (R184). -/
def execPushHl (s : State) : Answer := answer (pushPair .hl) s

/-- `POP AF` (R185). -/
def execPopAf (s : State) : Answer := answer (popPair .af) s

/-- `PUSH AF` (R184). -/
def execPushAf (s : State) : Answer := answer (pushPair .af) s

/-- `LD HL,SP+e` (R183). -/
def execLdHlSpE (e : Byte) (s : State) : Answer := answer (ldHlSpImm e) s

/-- `LD SP,HL` (R182). -/
def execLdSpHl (s : State) : Answer := answer ldSpFromHl s

end Sys2Proof.Machine
end

