-- ==== Sys2Proof/Machine/Load8.lean ====
section
/-! DEFINITION. The meanings of the 8-bit loads (40_load8.md): the shared operations, then one meaning for
each instruction. A meaning runs after the opcode and the immediates have been fetched and charged (R132, R150). -/

namespace Sys2Proof.Machine

/-- `LD r,r'` (R151). -/
def ldRegReg (dst src : Reg8) : Op Unit := updateCpu fun c => c.setReg8 dst (c.reg8 src)

/-- `LD r,n` (R152). -/
def ldRegImm (dst : Reg8) (n : Byte) : Op Unit := updateCpu fun c => c.setReg8 dst n

/-- `LD r,(HL)` (R153). -/
def ldRegMem (dst : Reg8) : Op Unit := do
  let hl ← look fun s => s.cpu.hl
  let v ← memRead hl
  updateCpu fun c => c.setReg8 dst v

/-- `LD (HL),r` (R154). -/
def ldMemReg (r : Reg8) : Op Unit := do
  let cpu ← look fun s => s.cpu
  memWrite cpu.hl (cpu.reg8 r)

/-- `LD (HL),n` (R155). -/
def ldMemImm (n : Byte) : Op Unit := do
  let hl ← look fun s => s.cpu.hl
  memWrite hl n

/-- A load of A from memory at an address (R156, R157, R160, R162, R164). -/
def loadA (a : Addr) : Op Unit := do
  let v ← memRead a
  updateCpu fun c => { c with a := v }

/-- A store of A to memory at an address (R158, R159, R161, R163, R165). -/
def storeA (a : Addr) : Op Unit := do
  let v ← look fun s => s.cpu.a
  memWrite a v

/-- `LD A,(BC)` and `LD A,(DE)` (R156, R157). -/
def ldAFromPtr (p : PtrPair) : Op Unit := do
  let a ← look fun s => s.cpu.ptr p
  loadA a

/-- `LD (BC),A` and `LD (DE),A` (R158, R159). -/
def ldPtrFromA (p : PtrPair) : Op Unit := do
  let a ← look fun s => s.cpu.ptr p
  storeA a

/-- `LD A,(nn)` (R160). -/
def ldAFromMem (nn : BitVec 16) : Op Unit := loadA nn

/-- `LD (nn),A` (R161). -/
def ldMemFromA (nn : BitVec 16) : Op Unit := storeA nn

/-- `LDH A,(C)` (R162). -/
def ldAFromHighC : Op Unit := do
  let c ← look fun s => s.cpu.c
  loadA (highPage c)

/-- `LDH (C),A` (R163). -/
def ldHighCFromA : Op Unit := do
  let c ← look fun s => s.cpu.c
  storeA (highPage c)

/-- `LDH A,(n)` (R164). -/
def ldAFromHigh (n : Byte) : Op Unit := loadA (highPage n)

/-- `LDH (n),A` (R165). -/
def ldHighFromA (n : Byte) : Op Unit := storeA (highPage n)

/-- `LD A,(HL-)` and `LD A,(HL+)` (R166, R168). -/
def ldAFromHlStep (k : HlStep) : Op Unit := do
  let hl ← look fun s => s.cpu.hl
  loadA hl
  updateCpu fun c => c.stepHl k

/-- `LD (HL-),A` and `LD (HL+),A` (R167, R169). -/
def ldHlStepFromA (k : HlStep) : Op Unit := do
  let hl ← look fun s => s.cpu.hl
  storeA hl
  updateCpu fun c => c.stepHl k

/-! ### One meaning for each instruction -/

/-- `LD (BC),A` (R158). -/
def execLdMemBcA (s : State) : Answer := answer (ldPtrFromA .bc) s

/-- `LD B,n` (R152). -/
def execLdBN (n : Byte) (s : State) : Answer := answer (ldRegImm .b n) s

/-- `LD A,(BC)` (R156). -/
def execLdAMemBc (s : State) : Answer := answer (ldAFromPtr .bc) s

/-- `LD C,n` (R152). -/
def execLdCN (n : Byte) (s : State) : Answer := answer (ldRegImm .c n) s

/-- `LD (DE),A` (R159). -/
def execLdMemDeA (s : State) : Answer := answer (ldPtrFromA .de) s

/-- `LD D,n` (R152). -/
def execLdDN (n : Byte) (s : State) : Answer := answer (ldRegImm .d n) s

/-- `LD A,(DE)` (R157). -/
def execLdAMemDe (s : State) : Answer := answer (ldAFromPtr .de) s

/-- `LD E,n` (R152). -/
def execLdEN (n : Byte) (s : State) : Answer := answer (ldRegImm .e n) s

/-- `LD (HL+),A` (R169). -/
def execLdMemHlIncA (s : State) : Answer := answer (ldHlStepFromA .inc) s

/-- `LD H,n` (R152). -/
def execLdHN (n : Byte) (s : State) : Answer := answer (ldRegImm .h n) s

/-- `LD A,(HL+)` (R168). -/
def execLdAMemHlInc (s : State) : Answer := answer (ldAFromHlStep .inc) s

/-- `LD L,n` (R152). -/
def execLdLN (n : Byte) (s : State) : Answer := answer (ldRegImm .l n) s

/-- `LD (HL-),A` (R167). -/
def execLdMemHlDecA (s : State) : Answer := answer (ldHlStepFromA .dec) s

/-- `LD (HL),n` (R155). -/
def execLdMemHlN (n : Byte) (s : State) : Answer := answer (ldMemImm n) s

/-- `LD A,(HL-)` (R166). -/
def execLdAMemHlDec (s : State) : Answer := answer (ldAFromHlStep .dec) s

/-- `LD A,n` (R152). -/
def execLdAN (n : Byte) (s : State) : Answer := answer (ldRegImm .a n) s

/-- `LD B,B` (R151). -/
def execLdBB (s : State) : Answer := answer (ldRegReg .b .b) s

/-- `LD B,C` (R151). -/
def execLdBC (s : State) : Answer := answer (ldRegReg .b .c) s

/-- `LD B,D` (R151). -/
def execLdBD (s : State) : Answer := answer (ldRegReg .b .d) s

/-- `LD B,E` (R151). -/
def execLdBE (s : State) : Answer := answer (ldRegReg .b .e) s

/-- `LD B,H` (R151). -/
def execLdBH (s : State) : Answer := answer (ldRegReg .b .h) s

/-- `LD B,L` (R151). -/
def execLdBL (s : State) : Answer := answer (ldRegReg .b .l) s

/-- `LD B,(HL)` (R153). -/
def execLdBMemHl (s : State) : Answer := answer (ldRegMem .b) s

/-- `LD B,A` (R151). -/
def execLdBA (s : State) : Answer := answer (ldRegReg .b .a) s

/-- `LD C,B` (R151). -/
def execLdCB (s : State) : Answer := answer (ldRegReg .c .b) s

/-- `LD C,C` (R151). -/
def execLdCC (s : State) : Answer := answer (ldRegReg .c .c) s

/-- `LD C,D` (R151). -/
def execLdCD (s : State) : Answer := answer (ldRegReg .c .d) s

/-- `LD C,E` (R151). -/
def execLdCE (s : State) : Answer := answer (ldRegReg .c .e) s

/-- `LD C,H` (R151). -/
def execLdCH (s : State) : Answer := answer (ldRegReg .c .h) s

/-- `LD C,L` (R151). -/
def execLdCL (s : State) : Answer := answer (ldRegReg .c .l) s

/-- `LD C,(HL)` (R153). -/
def execLdCMemHl (s : State) : Answer := answer (ldRegMem .c) s

/-- `LD C,A` (R151). -/
def execLdCA (s : State) : Answer := answer (ldRegReg .c .a) s

/-- `LD D,B` (R151). -/
def execLdDB (s : State) : Answer := answer (ldRegReg .d .b) s

/-- `LD D,C` (R151). -/
def execLdDC (s : State) : Answer := answer (ldRegReg .d .c) s

/-- `LD D,D` (R151). -/
def execLdDD (s : State) : Answer := answer (ldRegReg .d .d) s

/-- `LD D,E` (R151). -/
def execLdDE (s : State) : Answer := answer (ldRegReg .d .e) s

/-- `LD D,H` (R151). -/
def execLdDH (s : State) : Answer := answer (ldRegReg .d .h) s

/-- `LD D,L` (R151). -/
def execLdDL (s : State) : Answer := answer (ldRegReg .d .l) s

/-- `LD D,(HL)` (R153). -/
def execLdDMemHl (s : State) : Answer := answer (ldRegMem .d) s

/-- `LD D,A` (R151). -/
def execLdDA (s : State) : Answer := answer (ldRegReg .d .a) s

/-- `LD E,B` (R151). -/
def execLdEB (s : State) : Answer := answer (ldRegReg .e .b) s

/-- `LD E,C` (R151). -/
def execLdEC (s : State) : Answer := answer (ldRegReg .e .c) s

/-- `LD E,D` (R151). -/
def execLdED (s : State) : Answer := answer (ldRegReg .e .d) s

/-- `LD E,E` (R151). -/
def execLdEE (s : State) : Answer := answer (ldRegReg .e .e) s

/-- `LD E,H` (R151). -/
def execLdEH (s : State) : Answer := answer (ldRegReg .e .h) s

/-- `LD E,L` (R151). -/
def execLdEL (s : State) : Answer := answer (ldRegReg .e .l) s

/-- `LD E,(HL)` (R153). -/
def execLdEMemHl (s : State) : Answer := answer (ldRegMem .e) s

/-- `LD E,A` (R151). -/
def execLdEA (s : State) : Answer := answer (ldRegReg .e .a) s

/-- `LD H,B` (R151). -/
def execLdHB (s : State) : Answer := answer (ldRegReg .h .b) s

/-- `LD H,C` (R151). -/
def execLdHC (s : State) : Answer := answer (ldRegReg .h .c) s

/-- `LD H,D` (R151). -/
def execLdHD (s : State) : Answer := answer (ldRegReg .h .d) s

/-- `LD H,E` (R151). -/
def execLdHE (s : State) : Answer := answer (ldRegReg .h .e) s

/-- `LD H,H` (R151). -/
def execLdHH (s : State) : Answer := answer (ldRegReg .h .h) s

/-- `LD H,L` (R151). -/
def execLdHL (s : State) : Answer := answer (ldRegReg .h .l) s

/-- `LD H,(HL)` (R153). -/
def execLdHMemHl (s : State) : Answer := answer (ldRegMem .h) s

/-- `LD H,A` (R151). -/
def execLdHA (s : State) : Answer := answer (ldRegReg .h .a) s

/-- `LD L,B` (R151). -/
def execLdLB (s : State) : Answer := answer (ldRegReg .l .b) s

/-- `LD L,C` (R151). -/
def execLdLC (s : State) : Answer := answer (ldRegReg .l .c) s

/-- `LD L,D` (R151). -/
def execLdLD (s : State) : Answer := answer (ldRegReg .l .d) s

/-- `LD L,E` (R151). -/
def execLdLE (s : State) : Answer := answer (ldRegReg .l .e) s

/-- `LD L,H` (R151). -/
def execLdLH (s : State) : Answer := answer (ldRegReg .l .h) s

/-- `LD L,L` (R151). -/
def execLdLL (s : State) : Answer := answer (ldRegReg .l .l) s

/-- `LD L,(HL)` (R153). -/
def execLdLMemHl (s : State) : Answer := answer (ldRegMem .l) s

/-- `LD L,A` (R151). -/
def execLdLA (s : State) : Answer := answer (ldRegReg .l .a) s

/-- `LD (HL),B` (R154). -/
def execLdMemHlB (s : State) : Answer := answer (ldMemReg .b) s

/-- `LD (HL),C` (R154). -/
def execLdMemHlC (s : State) : Answer := answer (ldMemReg .c) s

/-- `LD (HL),D` (R154). -/
def execLdMemHlD (s : State) : Answer := answer (ldMemReg .d) s

/-- `LD (HL),E` (R154). -/
def execLdMemHlE (s : State) : Answer := answer (ldMemReg .e) s

/-- `LD (HL),H` (R154). -/
def execLdMemHlH (s : State) : Answer := answer (ldMemReg .h) s

/-- `LD (HL),L` (R154). -/
def execLdMemHlL (s : State) : Answer := answer (ldMemReg .l) s

/-- `LD (HL),A` (R154). -/
def execLdMemHlA (s : State) : Answer := answer (ldMemReg .a) s

/-- `LD A,B` (R151). -/
def execLdAB (s : State) : Answer := answer (ldRegReg .a .b) s

/-- `LD A,C` (R151). -/
def execLdAC (s : State) : Answer := answer (ldRegReg .a .c) s

/-- `LD A,D` (R151). -/
def execLdAD (s : State) : Answer := answer (ldRegReg .a .d) s

/-- `LD A,E` (R151). -/
def execLdAE (s : State) : Answer := answer (ldRegReg .a .e) s

/-- `LD A,H` (R151). -/
def execLdAH (s : State) : Answer := answer (ldRegReg .a .h) s

/-- `LD A,L` (R151). -/
def execLdAL (s : State) : Answer := answer (ldRegReg .a .l) s

/-- `LD A,(HL)` (R153). -/
def execLdAMemHl (s : State) : Answer := answer (ldRegMem .a) s

/-- `LD A,A` (R151). -/
def execLdAA (s : State) : Answer := answer (ldRegReg .a .a) s

/-- `LDH (n),A` (R165). -/
def execLdhMemNA (n : Byte) (s : State) : Answer := answer (ldHighFromA n) s

/-- `LDH (C),A` (R163). -/
def execLdhMemCA (s : State) : Answer := answer ldHighCFromA s

/-- `LD (nn),A` (R161). -/
def execLdMemNnA (nn : BitVec 16) (s : State) : Answer := answer (ldMemFromA nn) s

/-- `LDH A,(n)` (R164). -/
def execLdhAMemN (n : Byte) (s : State) : Answer := answer (ldAFromHigh n) s

/-- `LDH A,(C)` (R162). -/
def execLdhAMemC (s : State) : Answer := answer ldAFromHighC s

/-- `LD A,(nn)` (R160). -/
def execLdAMemNn (nn : BitVec 16) (s : State) : Answer := answer (ldAFromMem nn) s

end Sys2Proof.Machine
end

