-- ==== Sys2Proof/Machine/Rotate.lean ====
section
/-! DEFINITION. The meanings of the rotates and shifts (44_rotate_shift_bit.md sections 1 and 2): the shared operations, then one meaning for
each instruction. A meaning runs after the opcode and the immediates have been fetched and charged (R132, R150). -/

namespace Sys2Proof.Machine

/-- An accumulator rotate (R240 to R243). -/
def accRotate (op : AccRot) : Op Unit :=
  updateCpu fun c => ({ c with a := (accRot8 op c.a c.flags).1 } : Cpu).setFlags (accRot8 op c.a c.flags).2

/-- A second-table rotate or shift of a register (R244 to R258, the even rules). -/
def rotReg (op : RotOp) (r : Reg8) : Op Unit :=
  updateCpu fun c =>
    (c.setReg8 r (rotFlags8 op (c.reg8 r) c.flags).1).setFlags (rotFlags8 op (c.reg8 r) c.flags).2

/-- A second-table rotate or shift of memory at HL (R245 to R259, the odd rules). -/
def rotMem (op : RotOp) : Op Unit := do
  let hl ← look fun s => s.cpu.hl
  let v ← memRead hl
  let f ← look fun s => s.cpu.flags
  memWrite hl (rotFlags8 op v f).1
  updateCpu fun c => c.setFlags (rotFlags8 op v f).2

/-! ### One meaning for each instruction -/

/-- `RLCA` (R240). -/
def execRlca (s : State) : Answer := answer (accRotate .rlca) s

/-- `RRCA` (R241). -/
def execRrca (s : State) : Answer := answer (accRotate .rrca) s

/-- `RLA` (R242). -/
def execRla (s : State) : Answer := answer (accRotate .rla) s

/-- `RRA` (R243). -/
def execRra (s : State) : Answer := answer (accRotate .rra) s

/-- `RLC B` (R244). -/
def execRlcB (s : State) : Answer := answer (rotReg .rlc .b) s

/-- `RLC C` (R244). -/
def execRlcC (s : State) : Answer := answer (rotReg .rlc .c) s

/-- `RLC D` (R244). -/
def execRlcD (s : State) : Answer := answer (rotReg .rlc .d) s

/-- `RLC E` (R244). -/
def execRlcE (s : State) : Answer := answer (rotReg .rlc .e) s

/-- `RLC H` (R244). -/
def execRlcH (s : State) : Answer := answer (rotReg .rlc .h) s

/-- `RLC L` (R244). -/
def execRlcL (s : State) : Answer := answer (rotReg .rlc .l) s

/-- `RLC (HL)` (R245). -/
def execRlcMemHl (s : State) : Answer := answer (rotMem .rlc) s

/-- `RLC A` (R244). -/
def execRlcA (s : State) : Answer := answer (rotReg .rlc .a) s

/-- `RRC B` (R246). -/
def execRrcB (s : State) : Answer := answer (rotReg .rrc .b) s

/-- `RRC C` (R246). -/
def execRrcC (s : State) : Answer := answer (rotReg .rrc .c) s

/-- `RRC D` (R246). -/
def execRrcD (s : State) : Answer := answer (rotReg .rrc .d) s

/-- `RRC E` (R246). -/
def execRrcE (s : State) : Answer := answer (rotReg .rrc .e) s

/-- `RRC H` (R246). -/
def execRrcH (s : State) : Answer := answer (rotReg .rrc .h) s

/-- `RRC L` (R246). -/
def execRrcL (s : State) : Answer := answer (rotReg .rrc .l) s

/-- `RRC (HL)` (R247). -/
def execRrcMemHl (s : State) : Answer := answer (rotMem .rrc) s

/-- `RRC A` (R246). -/
def execRrcA (s : State) : Answer := answer (rotReg .rrc .a) s

/-- `RL B` (R248). -/
def execRlB (s : State) : Answer := answer (rotReg .rl .b) s

/-- `RL C` (R248). -/
def execRlC (s : State) : Answer := answer (rotReg .rl .c) s

/-- `RL D` (R248). -/
def execRlD (s : State) : Answer := answer (rotReg .rl .d) s

/-- `RL E` (R248). -/
def execRlE (s : State) : Answer := answer (rotReg .rl .e) s

/-- `RL H` (R248). -/
def execRlH (s : State) : Answer := answer (rotReg .rl .h) s

/-- `RL L` (R248). -/
def execRlL (s : State) : Answer := answer (rotReg .rl .l) s

/-- `RL (HL)` (R249). -/
def execRlMemHl (s : State) : Answer := answer (rotMem .rl) s

/-- `RL A` (R248). -/
def execRlA (s : State) : Answer := answer (rotReg .rl .a) s

/-- `RR B` (R250). -/
def execRrB (s : State) : Answer := answer (rotReg .rr .b) s

/-- `RR C` (R250). -/
def execRrC (s : State) : Answer := answer (rotReg .rr .c) s

/-- `RR D` (R250). -/
def execRrD (s : State) : Answer := answer (rotReg .rr .d) s

/-- `RR E` (R250). -/
def execRrE (s : State) : Answer := answer (rotReg .rr .e) s

/-- `RR H` (R250). -/
def execRrH (s : State) : Answer := answer (rotReg .rr .h) s

/-- `RR L` (R250). -/
def execRrL (s : State) : Answer := answer (rotReg .rr .l) s

/-- `RR (HL)` (R251). -/
def execRrMemHl (s : State) : Answer := answer (rotMem .rr) s

/-- `RR A` (R250). -/
def execRrA (s : State) : Answer := answer (rotReg .rr .a) s

/-- `SLA B` (R252). -/
def execSlaB (s : State) : Answer := answer (rotReg .sla .b) s

/-- `SLA C` (R252). -/
def execSlaC (s : State) : Answer := answer (rotReg .sla .c) s

/-- `SLA D` (R252). -/
def execSlaD (s : State) : Answer := answer (rotReg .sla .d) s

/-- `SLA E` (R252). -/
def execSlaE (s : State) : Answer := answer (rotReg .sla .e) s

/-- `SLA H` (R252). -/
def execSlaH (s : State) : Answer := answer (rotReg .sla .h) s

/-- `SLA L` (R252). -/
def execSlaL (s : State) : Answer := answer (rotReg .sla .l) s

/-- `SLA (HL)` (R253). -/
def execSlaMemHl (s : State) : Answer := answer (rotMem .sla) s

/-- `SLA A` (R252). -/
def execSlaA (s : State) : Answer := answer (rotReg .sla .a) s

/-- `SRA B` (R254). -/
def execSraB (s : State) : Answer := answer (rotReg .sra .b) s

/-- `SRA C` (R254). -/
def execSraC (s : State) : Answer := answer (rotReg .sra .c) s

/-- `SRA D` (R254). -/
def execSraD (s : State) : Answer := answer (rotReg .sra .d) s

/-- `SRA E` (R254). -/
def execSraE (s : State) : Answer := answer (rotReg .sra .e) s

/-- `SRA H` (R254). -/
def execSraH (s : State) : Answer := answer (rotReg .sra .h) s

/-- `SRA L` (R254). -/
def execSraL (s : State) : Answer := answer (rotReg .sra .l) s

/-- `SRA (HL)` (R255). -/
def execSraMemHl (s : State) : Answer := answer (rotMem .sra) s

/-- `SRA A` (R254). -/
def execSraA (s : State) : Answer := answer (rotReg .sra .a) s

/-- `SWAP B` (R256). -/
def execSwapB (s : State) : Answer := answer (rotReg .swap .b) s

/-- `SWAP C` (R256). -/
def execSwapC (s : State) : Answer := answer (rotReg .swap .c) s

/-- `SWAP D` (R256). -/
def execSwapD (s : State) : Answer := answer (rotReg .swap .d) s

/-- `SWAP E` (R256). -/
def execSwapE (s : State) : Answer := answer (rotReg .swap .e) s

/-- `SWAP H` (R256). -/
def execSwapH (s : State) : Answer := answer (rotReg .swap .h) s

/-- `SWAP L` (R256). -/
def execSwapL (s : State) : Answer := answer (rotReg .swap .l) s

/-- `SWAP (HL)` (R257). -/
def execSwapMemHl (s : State) : Answer := answer (rotMem .swap) s

/-- `SWAP A` (R256). -/
def execSwapA (s : State) : Answer := answer (rotReg .swap .a) s

/-- `SRL B` (R258). -/
def execSrlB (s : State) : Answer := answer (rotReg .srl .b) s

/-- `SRL C` (R258). -/
def execSrlC (s : State) : Answer := answer (rotReg .srl .c) s

/-- `SRL D` (R258). -/
def execSrlD (s : State) : Answer := answer (rotReg .srl .d) s

/-- `SRL E` (R258). -/
def execSrlE (s : State) : Answer := answer (rotReg .srl .e) s

/-- `SRL H` (R258). -/
def execSrlH (s : State) : Answer := answer (rotReg .srl .h) s

/-- `SRL L` (R258). -/
def execSrlL (s : State) : Answer := answer (rotReg .srl .l) s

/-- `SRL (HL)` (R259). -/
def execSrlMemHl (s : State) : Answer := answer (rotMem .srl) s

/-- `SRL A` (R258). -/
def execSrlA (s : State) : Answer := answer (rotReg .srl .a) s

end Sys2Proof.Machine
end

