-- ==== Sys2Proof/Machine/System.lean ====
section
/-! DEFINITION. The meanings of the miscellaneous and system instructions (46_misc_system.md): the shared operations, then one meaning for
each instruction. A meaning runs after the opcode and the immediates have been fetched and charged (R132, R150). -/

namespace Sys2Proof.Machine

/-- `NOP` (R290). -/
def nopOp : Op Unit := pure ()

/-- `HALT`: it sets the flag and looks at nothing (R291). -/
def haltOp : Op Unit := updateCpu fun c => { c with halted := true }

/-- `STOP`: the second byte is skipped with no bus access; then STOP_OUTCOME (R292, R331, D14; assumption 3). -/
def stopOp : Op Unit := do
  updateCpu fun c => { c with pc := c.pc + 1 }
  let s ← look fun s => s
  match s.params.stopOutcome with
  | .terminal => raise (.stopped s.cpu.pc)
  | .noOp => pure ()

/-- `DI` (R293). -/
def diOp : Op Unit := updateCpu fun c => { c with ime := false, imeSched := false }

/-- `EI` (R294). -/
def eiOp : Op Unit := updateCpu fun c => { c with imeSched := true }

/-- `PREFIX`, the byte 0xCB (R296). -/
def prefixOp : Op Unit := updateCpu fun c => { c with prefixedPending := true }

/-- An unused opcode: ILLEGAL_OUTCOME (R297, R330, D6, U1; assumption 3). -/
def illegalOp (op : Byte) : Op Unit := do
  let s ← look fun s => s
  match s.params.illegalOutcome with
  | .fault => raise (.illegalOpcode op s.cpu.opAddr)
  | .noOp => pure ()

/-! ### One meaning for each instruction -/

/-- `NOP` (R290). -/
def execNop (s : State) : Answer := answer nopOp s

/-- `STOP` (R292). -/
def execStop (s : State) : Answer := answer stopOp s

/-- `HALT` (R291). -/
def execHalt (s : State) : Answer := answer haltOp s

/-- `PREFIX CB` (R296). -/
def execPrefixCb (s : State) : Answer := answer prefixOp s

/-- `ILLEGAL_D3` (R297). -/
def execIllegalD3 (s : State) : Answer := answer (illegalOp 0xD3) s

/-- `ILLEGAL_DB` (R297). -/
def execIllegalDB (s : State) : Answer := answer (illegalOp 0xDB) s

/-- `ILLEGAL_DD` (R297). -/
def execIllegalDD (s : State) : Answer := answer (illegalOp 0xDD) s

/-- `ILLEGAL_E3` (R297). -/
def execIllegalE3 (s : State) : Answer := answer (illegalOp 0xE3) s

/-- `ILLEGAL_E4` (R297). -/
def execIllegalE4 (s : State) : Answer := answer (illegalOp 0xE4) s

/-- `ILLEGAL_EB` (R297). -/
def execIllegalEB (s : State) : Answer := answer (illegalOp 0xEB) s

/-- `ILLEGAL_EC` (R297). -/
def execIllegalEC (s : State) : Answer := answer (illegalOp 0xEC) s

/-- `ILLEGAL_ED` (R297). -/
def execIllegalED (s : State) : Answer := answer (illegalOp 0xED) s

/-- `DI` (R293). -/
def execDi (s : State) : Answer := answer diOp s

/-- `ILLEGAL_F4` (R297). -/
def execIllegalF4 (s : State) : Answer := answer (illegalOp 0xF4) s

/-- `EI` (R294). -/
def execEi (s : State) : Answer := answer eiOp s

/-- `ILLEGAL_FC` (R297). -/
def execIllegalFC (s : State) : Answer := answer (illegalOp 0xFC) s

/-- `ILLEGAL_FD` (R297). -/
def execIllegalFD (s : State) : Answer := answer (illegalOp 0xFD) s

end Sys2Proof.Machine
end

