-- ==== Sys2Proof/Machine/Step.lean ====
section
/-! DEFINITION. One step of the machine: `CpuStep()` (R310), after the host's turn (R476). -/

namespace Sys2Proof.Machine

/-- One step: the phases up to the fetched instruction, then its meaning (R310, R319). -/
def step (s : State) : Host.Outcome State Fault Refusal :=
  match beginStep s with
  | .ok (some i) t => exec i t
  | .ok none t => .next t
  | .error r t => .fault (r.keep t)

/-- The state whose next step fetches and runs the instruction of an opcode-table word: its bytes stand at `pc`. For an
instruction of the second table the prefix byte has been executed: `prefixed_pending` is set and the byte after 0xCB is
the one at `pc` (R296, R311; assumptions 11 and 12). -/
def State.withFetchWord (s : State) (nbits w : Nat) : State :=
  let bs := tableBytes nbits w
  if tableWordPrefixed nbits w then
    (s.pokes s.cpu.pc (bs.drop 1)).readyToFetch true
  else (s.pokes s.cpu.pc bs).readyToFetch false

end Sys2Proof.Machine
end

