-- ==== Sys2Proof/Machine/Forms.lean ====
section
/-! DEFINITION. The forms of the instructions: what an instruction is, with its fields taken out of its name, so
that one statement can speak of every instruction of one shape. Nothing the machine does goes through this file. -/

namespace Sys2Proof.Machine

/-- An operand that is read and written: a register, or the byte of memory at HL (R124). -/
inductive Place where
  | reg (r : Reg8) | memHl
  deriving DecidableEq, Repr

/-- The operand of an arithmetic operation: a register, memory at HL, or an immediate (42_alu8.md section 2). -/
inductive Source where
  | reg (r : Reg8) | memHl | imm (n : Byte)
  deriving DecidableEq, Repr

/-- Where a load or store of A finds its byte, other than through HL (R170). -/
inductive Pointer where
  | pair (p : PtrPair) | abs (nn : Addr) | highC | high (n : Byte)
  deriving DecidableEq, Repr

/-- The effective address of a pointer (R170). -/
def Pointer.addr (c : Cpu) : Pointer → Addr
  | .pair p => c.ptr p
  | .abs nn => nn
  | .highC => highPage c.c
  | .high n => highPage n

/-- The forms. Each docstring names the rules that give it. -/
inductive Form where
  /-- R290 -/
  | nop
  /-- R291 -/
  | halt
  /-- R292 -/
  | stop
  /-- R293 -/
  | di
  /-- R294 -/
  | ei
  /-- R296 -/
  | prefixCb
  /-- R297 -/
  | illegal (op : Byte)
  /-- R151 -/
  | ldRegReg (dst src : Reg8)
  /-- R152 -/
  | ldRegImm (dst : Reg8) (n : Byte)
  /-- R153 -/
  | ldRegMem (dst : Reg8)
  /-- R154 -/
  | ldMemReg (src : Reg8)
  /-- R155 -/
  | ldMemImm (n : Byte)
  /-- R156, R157, R160, R162, R164 -/
  | loadA (x : Pointer)
  /-- R158, R159, R161, R163, R165 -/
  | storeA (x : Pointer)
  /-- R166, R168 -/
  | loadAStep (h : HlStep)
  /-- R167, R169 -/
  | storeAStep (h : HlStep)
  /-- R180 -/
  | ldPairImm (p : Pair) (nn : BitVec 16)
  /-- R181 -/
  | ldMemSp (nn : BitVec 16)
  /-- R182 -/
  | ldSpHl
  /-- R183 -/
  | ldHlSp (e : Byte)
  /-- R184 -/
  | push (p : StackPair)
  /-- R185 -/
  | pop (p : StackPair)
  /-- R192 to R215 -/
  | alu (op : AluOp) (x : Source)
  /-- R216, R217 -/
  | inc8 (x : Place)
  /-- R218, R219 -/
  | dec8 (x : Place)
  /-- R220 -/
  | daa
  /-- R221 -/
  | cpl
  /-- R222 -/
  | scf
  /-- R223 -/
  | ccf
  /-- R230 -/
  | addHl (p : Pair)
  /-- R231 -/
  | incPair (p : Pair)
  /-- R232 -/
  | decPair (p : Pair)
  /-- R233 -/
  | addSp (e : Byte)
  /-- R240 to R243 -/
  | accRot (op : AccRot)
  /-- R244 to R259 -/
  | rot (op : RotOp) (x : Place)
  /-- R260, R261 -/
  | bit (b : Fin 8) (x : Place)
  /-- R262, R263 -/
  | res (b : Fin 8) (x : Place)
  /-- R264, R265 -/
  | set (b : Fin 8) (x : Place)
  /-- R271 -/
  | jp (nn : BitVec 16)
  /-- R272 -/
  | jpHl
  /-- R273 -/
  | jpCond (cc : Cond) (nn : BitVec 16)
  /-- R274 -/
  | jr (e : Byte)
  /-- R275 -/
  | jrCond (cc : Cond) (e : Byte)
  /-- R276 -/
  | call (nn : BitVec 16)
  /-- R277 -/
  | callCond (cc : Cond) (nn : BitVec 16)
  /-- R278 -/
  | ret
  /-- R279 -/
  | retCond (cc : Cond)
  /-- R280 -/
  | reti
  /-- R283 -/
  | rst (y : Fin 8)
  deriving DecidableEq, Repr

/-! ### The fields of an opcode byte (R121) -/

/-- The register field; `none` is the memory operand (R124). -/
def regField (f : BitVec 3) : Option Reg8 :=
  match f.toNat with
  | 0 => some .b
  | 1 => some .c
  | 2 => some .d
  | 3 => some .e
  | 4 => some .h
  | 5 => some .l
  | 6 => none
  | _ => some .a

/-- The place a register field names (R124). -/
def Place.ofField (f : BitVec 3) : Place := ((regField f).map .reg).getD .memHl

/-- The source a register field names (R124). -/
def Source.ofField (f : BitVec 3) : Source := ((regField f).map .reg).getD .memHl

/-- The pair field `rp` (R125). -/
def pairField (f : BitVec 2) : Pair :=
  match f.toNat with
  | 0 => .bc
  | 1 => .de
  | 2 => .hl
  | _ => .sp

/-- The pair field `rp2` (R125). -/
def stackPairField (f : BitVec 2) : StackPair :=
  match f.toNat with
  | 0 => .bc
  | 1 => .de
  | 2 => .hl
  | _ => .af

/-- The condition field (R126). -/
def condField (f : BitVec 2) : Cond :=
  match f.toNat with
  | 0 => .nz
  | 1 => .z
  | 2 => .nc
  | _ => .c

/-- The arithmetic-operation field (R127). -/
def aluField (f : BitVec 3) : AluOp :=
  match f.toNat with
  | 0 => .add
  | 1 => .adc
  | 2 => .sub
  | 3 => .sbc
  | 4 => .and
  | 5 => .xor
  | 6 => .or
  | _ => .cp

/-- The rotate-operation field (R127). -/
def rotField (f : BitVec 3) : RotOp :=
  match f.toNat with
  | 0 => .rlc
  | 1 => .rrc
  | 2 => .rl
  | 3 => .rr
  | 4 => .sla
  | 5 => .sra
  | 6 => .swap
  | _ => .srl

/-! ### Costs, conditions and stores -/

/-- The cost in machine cycles, opcode, prefix and immediate fetches included, when the instruction's condition, if it
has one, is as given (R521). -/
def Form.cost (f : Form) (taken : Bool) : Nat :=
  match f with
  | .nop | .halt | .stop | .di | .ei | .prefixCb | .illegal _ | .ldRegReg _ _ | .daa | .cpl | .scf | .ccf
  | .accRot _ | .jpHl | .alu _ (.reg _) | .inc8 (.reg _) | .dec8 (.reg _) => 1
  | .ldRegImm _ _ | .ldRegMem _ | .ldMemReg _ | .loadA (.pair _) | .storeA (.pair _) | .loadA .highC
  | .storeA .highC | .loadAStep _ | .storeAStep _ | .alu _ (.imm _) | .alu _ .memHl | .incPair _ | .decPair _
  | .addHl _ | .ldSpHl | .rot _ (.reg _) | .bit _ (.reg _) | .res _ (.reg _) | .set _ (.reg _) => 2
  | .ldMemImm _ | .loadA (.high _) | .storeA (.high _) | .ldPairImm _ _ | .inc8 .memHl | .dec8 .memHl
  | .pop _ | .jr _ | .ldHlSp _ | .bit _ .memHl => 3
  | .loadA (.abs _) | .storeA (.abs _) | .push _ | .jp _ | .ret | .reti | .rst _ | .addSp _ | .rot _ .memHl
  | .res _ .memHl | .set _ .memHl => 4
  | .ldMemSp _ => 5
  | .call _ => 6
  | .jrCond _ _ => if taken then 3 else 2
  | .jpCond _ _ => if taken then 4 else 3
  | .callCond _ _ => if taken then 6 else 3
  | .retCond _ => if taken then 5 else 2

/-- The condition of a conditional form; the others are always taken (R270). -/
def Form.taken (f : Form) (c : Cpu) : Bool :=
  match f with
  | .jpCond cc _ | .jrCond cc _ | .callCond cc _ | .retCond cc => c.cond cc
  | _ => true

/-- The two addresses a push writes, the high byte's first (R11, R184). -/
def Cpu.pushAddrs (c : Cpu) : List Addr := [c.sp - 1, c.sp - 2]

/-- The addresses an instruction stores to, in order, computed as its meaning computes them. -/
def Form.stores (f : Form) (c : Cpu) : List Addr :=
  match f with
  | .ldMemReg _ | .ldMemImm _ | .storeAStep _ | .inc8 .memHl | .dec8 .memHl | .rot _ .memHl | .res _ .memHl
  | .set _ .memHl => [c.hl]
  | .storeA x => [x.addr c]
  | .ldMemSp nn => [nn, nn + 1]
  | .push _ | .call _ | .rst _ => c.pushAddrs
  | .callCond cc _ => if c.cond cc then c.pushAddrs else []
  | _ => []

end Sys2Proof.Machine

namespace Sys2Proof

open Machine in
/-- The form of each instruction, in the order of spec/opcode_table.json. -/
def Instr.form (i : Instr) : Form :=
  match i with
  | .nop => .nop
  | .ldBcNn nn => .ldPairImm .bc nn
  | .ldMemBcA => .storeA (.pair .bc)
  | .incBc => .incPair .bc
  | .incB => .inc8 (.reg .b)
  | .decB => .dec8 (.reg .b)
  | .ldBN n => .ldRegImm .b n
  | .rlca => .accRot .rlca
  | .ldMemNnSp nn => .ldMemSp nn
  | .addHlBc => .addHl .bc
  | .ldAMemBc => .loadA (.pair .bc)
  | .decBc => .decPair .bc
  | .incC => .inc8 (.reg .c)
  | .decC => .dec8 (.reg .c)
  | .ldCN n => .ldRegImm .c n
  | .rrca => .accRot .rrca
  | .stop => .stop
  | .ldDeNn nn => .ldPairImm .de nn
  | .ldMemDeA => .storeA (.pair .de)
  | .incDe => .incPair .de
  | .incD => .inc8 (.reg .d)
  | .decD => .dec8 (.reg .d)
  | .ldDN n => .ldRegImm .d n
  | .rla => .accRot .rla
  | .jrE e => .jr e
  | .addHlDe => .addHl .de
  | .ldAMemDe => .loadA (.pair .de)
  | .decDe => .decPair .de
  | .incE => .inc8 (.reg .e)
  | .decE => .dec8 (.reg .e)
  | .ldEN n => .ldRegImm .e n
  | .rra => .accRot .rra
  | .jrNzE e => .jrCond .nz e
  | .ldHlNn nn => .ldPairImm .hl nn
  | .ldMemHlIncA => .storeAStep .inc
  | .incHl => .incPair .hl
  | .incH => .inc8 (.reg .h)
  | .decH => .dec8 (.reg .h)
  | .ldHN n => .ldRegImm .h n
  | .daa => .daa
  | .jrZE e => .jrCond .z e
  | .addHlHl => .addHl .hl
  | .ldAMemHlInc => .loadAStep .inc
  | .decHl => .decPair .hl
  | .incL => .inc8 (.reg .l)
  | .decL => .dec8 (.reg .l)
  | .ldLN n => .ldRegImm .l n
  | .cpl => .cpl
  | .jrNcE e => .jrCond .nc e
  | .ldSpNn nn => .ldPairImm .sp nn
  | .ldMemHlDecA => .storeAStep .dec
  | .incSp => .incPair .sp
  | .incMemHl => .inc8 .memHl
  | .decMemHl => .dec8 .memHl
  | .ldMemHlN n => .ldMemImm n
  | .scf => .scf
  | .jrCE e => .jrCond .c e
  | .addHlSp => .addHl .sp
  | .ldAMemHlDec => .loadAStep .dec
  | .decSp => .decPair .sp
  | .incA => .inc8 (.reg .a)
  | .decA => .dec8 (.reg .a)
  | .ldAN n => .ldRegImm .a n
  | .ccf => .ccf
  | .ldBB => .ldRegReg .b .b
  | .ldBC => .ldRegReg .b .c
  | .ldBD => .ldRegReg .b .d
  | .ldBE => .ldRegReg .b .e
  | .ldBH => .ldRegReg .b .h
  | .ldBL => .ldRegReg .b .l
  | .ldBMemHl => .ldRegMem .b
  | .ldBA => .ldRegReg .b .a
  | .ldCB => .ldRegReg .c .b
  | .ldCC => .ldRegReg .c .c
  | .ldCD => .ldRegReg .c .d
  | .ldCE => .ldRegReg .c .e
  | .ldCH => .ldRegReg .c .h
  | .ldCL => .ldRegReg .c .l
  | .ldCMemHl => .ldRegMem .c
  | .ldCA => .ldRegReg .c .a
  | .ldDB => .ldRegReg .d .b
  | .ldDC => .ldRegReg .d .c
  | .ldDD => .ldRegReg .d .d
  | .ldDE => .ldRegReg .d .e
  | .ldDH => .ldRegReg .d .h
  | .ldDL => .ldRegReg .d .l
  | .ldDMemHl => .ldRegMem .d
  | .ldDA => .ldRegReg .d .a
  | .ldEB => .ldRegReg .e .b
  | .ldEC => .ldRegReg .e .c
  | .ldED => .ldRegReg .e .d
  | .ldEE => .ldRegReg .e .e
  | .ldEH => .ldRegReg .e .h
  | .ldEL => .ldRegReg .e .l
  | .ldEMemHl => .ldRegMem .e
  | .ldEA => .ldRegReg .e .a
  | .ldHB => .ldRegReg .h .b
  | .ldHC => .ldRegReg .h .c
  | .ldHD => .ldRegReg .h .d
  | .ldHE => .ldRegReg .h .e
  | .ldHH => .ldRegReg .h .h
  | .ldHL => .ldRegReg .h .l
  | .ldHMemHl => .ldRegMem .h
  | .ldHA => .ldRegReg .h .a
  | .ldLB => .ldRegReg .l .b
  | .ldLC => .ldRegReg .l .c
  | .ldLD => .ldRegReg .l .d
  | .ldLE => .ldRegReg .l .e
  | .ldLH => .ldRegReg .l .h
  | .ldLL => .ldRegReg .l .l
  | .ldLMemHl => .ldRegMem .l
  | .ldLA => .ldRegReg .l .a
  | .ldMemHlB => .ldMemReg .b
  | .ldMemHlC => .ldMemReg .c
  | .ldMemHlD => .ldMemReg .d
  | .ldMemHlE => .ldMemReg .e
  | .ldMemHlH => .ldMemReg .h
  | .ldMemHlL => .ldMemReg .l
  | .halt => .halt
  | .ldMemHlA => .ldMemReg .a
  | .ldAB => .ldRegReg .a .b
  | .ldAC => .ldRegReg .a .c
  | .ldAD => .ldRegReg .a .d
  | .ldAE => .ldRegReg .a .e
  | .ldAH => .ldRegReg .a .h
  | .ldAL => .ldRegReg .a .l
  | .ldAMemHl => .ldRegMem .a
  | .ldAA => .ldRegReg .a .a
  | .addAB => .alu .add (.reg .b)
  | .addAC => .alu .add (.reg .c)
  | .addAD => .alu .add (.reg .d)
  | .addAE => .alu .add (.reg .e)
  | .addAH => .alu .add (.reg .h)
  | .addAL => .alu .add (.reg .l)
  | .addAMemHl => .alu .add .memHl
  | .addAA => .alu .add (.reg .a)
  | .adcAB => .alu .adc (.reg .b)
  | .adcAC => .alu .adc (.reg .c)
  | .adcAD => .alu .adc (.reg .d)
  | .adcAE => .alu .adc (.reg .e)
  | .adcAH => .alu .adc (.reg .h)
  | .adcAL => .alu .adc (.reg .l)
  | .adcAMemHl => .alu .adc .memHl
  | .adcAA => .alu .adc (.reg .a)
  | .subB => .alu .sub (.reg .b)
  | .subC => .alu .sub (.reg .c)
  | .subD => .alu .sub (.reg .d)
  | .subE => .alu .sub (.reg .e)
  | .subH => .alu .sub (.reg .h)
  | .subL => .alu .sub (.reg .l)
  | .subMemHl => .alu .sub .memHl
  | .subA => .alu .sub (.reg .a)
  | .sbcAB => .alu .sbc (.reg .b)
  | .sbcAC => .alu .sbc (.reg .c)
  | .sbcAD => .alu .sbc (.reg .d)
  | .sbcAE => .alu .sbc (.reg .e)
  | .sbcAH => .alu .sbc (.reg .h)
  | .sbcAL => .alu .sbc (.reg .l)
  | .sbcAMemHl => .alu .sbc .memHl
  | .sbcAA => .alu .sbc (.reg .a)
  | .andB => .alu .and (.reg .b)
  | .andC => .alu .and (.reg .c)
  | .andD => .alu .and (.reg .d)
  | .andE => .alu .and (.reg .e)
  | .andH => .alu .and (.reg .h)
  | .andL => .alu .and (.reg .l)
  | .andMemHl => .alu .and .memHl
  | .andA => .alu .and (.reg .a)
  | .xorB => .alu .xor (.reg .b)
  | .xorC => .alu .xor (.reg .c)
  | .xorD => .alu .xor (.reg .d)
  | .xorE => .alu .xor (.reg .e)
  | .xorH => .alu .xor (.reg .h)
  | .xorL => .alu .xor (.reg .l)
  | .xorMemHl => .alu .xor .memHl
  | .xorA => .alu .xor (.reg .a)
  | .orB => .alu .or (.reg .b)
  | .orC => .alu .or (.reg .c)
  | .orD => .alu .or (.reg .d)
  | .orE => .alu .or (.reg .e)
  | .orH => .alu .or (.reg .h)
  | .orL => .alu .or (.reg .l)
  | .orMemHl => .alu .or .memHl
  | .orA => .alu .or (.reg .a)
  | .cpB => .alu .cp (.reg .b)
  | .cpC => .alu .cp (.reg .c)
  | .cpD => .alu .cp (.reg .d)
  | .cpE => .alu .cp (.reg .e)
  | .cpH => .alu .cp (.reg .h)
  | .cpL => .alu .cp (.reg .l)
  | .cpMemHl => .alu .cp .memHl
  | .cpA => .alu .cp (.reg .a)
  | .retNz => .retCond .nz
  | .popBc => .pop .bc
  | .jpNzNn nn => .jpCond .nz nn
  | .jpNn nn => .jp nn
  | .callNzNn nn => .callCond .nz nn
  | .pushBc => .push .bc
  | .addAN n => .alu .add (.imm n)
  | .rst00 => .rst 0
  | .retZ => .retCond .z
  | .ret => .ret
  | .jpZNn nn => .jpCond .z nn
  | .prefixCb => .prefixCb
  | .callZNn nn => .callCond .z nn
  | .callNn nn => .call nn
  | .adcAN n => .alu .adc (.imm n)
  | .rst08 => .rst 1
  | .retNc => .retCond .nc
  | .popDe => .pop .de
  | .jpNcNn nn => .jpCond .nc nn
  | .illegalD3 => .illegal 0xD3
  | .callNcNn nn => .callCond .nc nn
  | .pushDe => .push .de
  | .subN n => .alu .sub (.imm n)
  | .rst10 => .rst 2
  | .retC => .retCond .c
  | .reti => .reti
  | .jpCNn nn => .jpCond .c nn
  | .illegalDB => .illegal 0xDB
  | .callCNn nn => .callCond .c nn
  | .illegalDD => .illegal 0xDD
  | .sbcAN n => .alu .sbc (.imm n)
  | .rst18 => .rst 3
  | .ldhMemNA n => .storeA (.high n)
  | .popHl => .pop .hl
  | .ldhMemCA => .storeA .highC
  | .illegalE3 => .illegal 0xE3
  | .illegalE4 => .illegal 0xE4
  | .pushHl => .push .hl
  | .andN n => .alu .and (.imm n)
  | .rst20 => .rst 4
  | .addSpE e => .addSp e
  | .jpHl => .jpHl
  | .ldMemNnA nn => .storeA (.abs nn)
  | .illegalEB => .illegal 0xEB
  | .illegalEC => .illegal 0xEC
  | .illegalED => .illegal 0xED
  | .xorN n => .alu .xor (.imm n)
  | .rst28 => .rst 5
  | .ldhAMemN n => .loadA (.high n)
  | .popAf => .pop .af
  | .ldhAMemC => .loadA .highC
  | .di => .di
  | .illegalF4 => .illegal 0xF4
  | .pushAf => .push .af
  | .orN n => .alu .or (.imm n)
  | .rst30 => .rst 6
  | .ldHlSpE e => .ldHlSp e
  | .ldSpHl => .ldSpHl
  | .ldAMemNn nn => .loadA (.abs nn)
  | .ei => .ei
  | .illegalFC => .illegal 0xFC
  | .illegalFD => .illegal 0xFD
  | .cpN n => .alu .cp (.imm n)
  | .rst38 => .rst 7
  | .rlcB => .rot .rlc (.reg .b)
  | .rlcC => .rot .rlc (.reg .c)
  | .rlcD => .rot .rlc (.reg .d)
  | .rlcE => .rot .rlc (.reg .e)
  | .rlcH => .rot .rlc (.reg .h)
  | .rlcL => .rot .rlc (.reg .l)
  | .rlcMemHl => .rot .rlc .memHl
  | .rlcA => .rot .rlc (.reg .a)
  | .rrcB => .rot .rrc (.reg .b)
  | .rrcC => .rot .rrc (.reg .c)
  | .rrcD => .rot .rrc (.reg .d)
  | .rrcE => .rot .rrc (.reg .e)
  | .rrcH => .rot .rrc (.reg .h)
  | .rrcL => .rot .rrc (.reg .l)
  | .rrcMemHl => .rot .rrc .memHl
  | .rrcA => .rot .rrc (.reg .a)
  | .rlB => .rot .rl (.reg .b)
  | .rlC => .rot .rl (.reg .c)
  | .rlD => .rot .rl (.reg .d)
  | .rlE => .rot .rl (.reg .e)
  | .rlH => .rot .rl (.reg .h)
  | .rlL => .rot .rl (.reg .l)
  | .rlMemHl => .rot .rl .memHl
  | .rlA => .rot .rl (.reg .a)
  | .rrB => .rot .rr (.reg .b)
  | .rrC => .rot .rr (.reg .c)
  | .rrD => .rot .rr (.reg .d)
  | .rrE => .rot .rr (.reg .e)
  | .rrH => .rot .rr (.reg .h)
  | .rrL => .rot .rr (.reg .l)
  | .rrMemHl => .rot .rr .memHl
  | .rrA => .rot .rr (.reg .a)
  | .slaB => .rot .sla (.reg .b)
  | .slaC => .rot .sla (.reg .c)
  | .slaD => .rot .sla (.reg .d)
  | .slaE => .rot .sla (.reg .e)
  | .slaH => .rot .sla (.reg .h)
  | .slaL => .rot .sla (.reg .l)
  | .slaMemHl => .rot .sla .memHl
  | .slaA => .rot .sla (.reg .a)
  | .sraB => .rot .sra (.reg .b)
  | .sraC => .rot .sra (.reg .c)
  | .sraD => .rot .sra (.reg .d)
  | .sraE => .rot .sra (.reg .e)
  | .sraH => .rot .sra (.reg .h)
  | .sraL => .rot .sra (.reg .l)
  | .sraMemHl => .rot .sra .memHl
  | .sraA => .rot .sra (.reg .a)
  | .swapB => .rot .swap (.reg .b)
  | .swapC => .rot .swap (.reg .c)
  | .swapD => .rot .swap (.reg .d)
  | .swapE => .rot .swap (.reg .e)
  | .swapH => .rot .swap (.reg .h)
  | .swapL => .rot .swap (.reg .l)
  | .swapMemHl => .rot .swap .memHl
  | .swapA => .rot .swap (.reg .a)
  | .srlB => .rot .srl (.reg .b)
  | .srlC => .rot .srl (.reg .c)
  | .srlD => .rot .srl (.reg .d)
  | .srlE => .rot .srl (.reg .e)
  | .srlH => .rot .srl (.reg .h)
  | .srlL => .rot .srl (.reg .l)
  | .srlMemHl => .rot .srl .memHl
  | .srlA => .rot .srl (.reg .a)
  | .bit0B => .bit 0 (.reg .b)
  | .bit0C => .bit 0 (.reg .c)
  | .bit0D => .bit 0 (.reg .d)
  | .bit0E => .bit 0 (.reg .e)
  | .bit0H => .bit 0 (.reg .h)
  | .bit0L => .bit 0 (.reg .l)
  | .bit0MemHl => .bit 0 .memHl
  | .bit0A => .bit 0 (.reg .a)
  | .bit1B => .bit 1 (.reg .b)
  | .bit1C => .bit 1 (.reg .c)
  | .bit1D => .bit 1 (.reg .d)
  | .bit1E => .bit 1 (.reg .e)
  | .bit1H => .bit 1 (.reg .h)
  | .bit1L => .bit 1 (.reg .l)
  | .bit1MemHl => .bit 1 .memHl
  | .bit1A => .bit 1 (.reg .a)
  | .bit2B => .bit 2 (.reg .b)
  | .bit2C => .bit 2 (.reg .c)
  | .bit2D => .bit 2 (.reg .d)
  | .bit2E => .bit 2 (.reg .e)
  | .bit2H => .bit 2 (.reg .h)
  | .bit2L => .bit 2 (.reg .l)
  | .bit2MemHl => .bit 2 .memHl
  | .bit2A => .bit 2 (.reg .a)
  | .bit3B => .bit 3 (.reg .b)
  | .bit3C => .bit 3 (.reg .c)
  | .bit3D => .bit 3 (.reg .d)
  | .bit3E => .bit 3 (.reg .e)
  | .bit3H => .bit 3 (.reg .h)
  | .bit3L => .bit 3 (.reg .l)
  | .bit3MemHl => .bit 3 .memHl
  | .bit3A => .bit 3 (.reg .a)
  | .bit4B => .bit 4 (.reg .b)
  | .bit4C => .bit 4 (.reg .c)
  | .bit4D => .bit 4 (.reg .d)
  | .bit4E => .bit 4 (.reg .e)
  | .bit4H => .bit 4 (.reg .h)
  | .bit4L => .bit 4 (.reg .l)
  | .bit4MemHl => .bit 4 .memHl
  | .bit4A => .bit 4 (.reg .a)
  | .bit5B => .bit 5 (.reg .b)
  | .bit5C => .bit 5 (.reg .c)
  | .bit5D => .bit 5 (.reg .d)
  | .bit5E => .bit 5 (.reg .e)
  | .bit5H => .bit 5 (.reg .h)
  | .bit5L => .bit 5 (.reg .l)
  | .bit5MemHl => .bit 5 .memHl
  | .bit5A => .bit 5 (.reg .a)
  | .bit6B => .bit 6 (.reg .b)
  | .bit6C => .bit 6 (.reg .c)
  | .bit6D => .bit 6 (.reg .d)
  | .bit6E => .bit 6 (.reg .e)
  | .bit6H => .bit 6 (.reg .h)
  | .bit6L => .bit 6 (.reg .l)
  | .bit6MemHl => .bit 6 .memHl
  | .bit6A => .bit 6 (.reg .a)
  | .bit7B => .bit 7 (.reg .b)
  | .bit7C => .bit 7 (.reg .c)
  | .bit7D => .bit 7 (.reg .d)
  | .bit7E => .bit 7 (.reg .e)
  | .bit7H => .bit 7 (.reg .h)
  | .bit7L => .bit 7 (.reg .l)
  | .bit7MemHl => .bit 7 .memHl
  | .bit7A => .bit 7 (.reg .a)
  | .res0B => .res 0 (.reg .b)
  | .res0C => .res 0 (.reg .c)
  | .res0D => .res 0 (.reg .d)
  | .res0E => .res 0 (.reg .e)
  | .res0H => .res 0 (.reg .h)
  | .res0L => .res 0 (.reg .l)
  | .res0MemHl => .res 0 .memHl
  | .res0A => .res 0 (.reg .a)
  | .res1B => .res 1 (.reg .b)
  | .res1C => .res 1 (.reg .c)
  | .res1D => .res 1 (.reg .d)
  | .res1E => .res 1 (.reg .e)
  | .res1H => .res 1 (.reg .h)
  | .res1L => .res 1 (.reg .l)
  | .res1MemHl => .res 1 .memHl
  | .res1A => .res 1 (.reg .a)
  | .res2B => .res 2 (.reg .b)
  | .res2C => .res 2 (.reg .c)
  | .res2D => .res 2 (.reg .d)
  | .res2E => .res 2 (.reg .e)
  | .res2H => .res 2 (.reg .h)
  | .res2L => .res 2 (.reg .l)
  | .res2MemHl => .res 2 .memHl
  | .res2A => .res 2 (.reg .a)
  | .res3B => .res 3 (.reg .b)
  | .res3C => .res 3 (.reg .c)
  | .res3D => .res 3 (.reg .d)
  | .res3E => .res 3 (.reg .e)
  | .res3H => .res 3 (.reg .h)
  | .res3L => .res 3 (.reg .l)
  | .res3MemHl => .res 3 .memHl
  | .res3A => .res 3 (.reg .a)
  | .res4B => .res 4 (.reg .b)
  | .res4C => .res 4 (.reg .c)
  | .res4D => .res 4 (.reg .d)
  | .res4E => .res 4 (.reg .e)
  | .res4H => .res 4 (.reg .h)
  | .res4L => .res 4 (.reg .l)
  | .res4MemHl => .res 4 .memHl
  | .res4A => .res 4 (.reg .a)
  | .res5B => .res 5 (.reg .b)
  | .res5C => .res 5 (.reg .c)
  | .res5D => .res 5 (.reg .d)
  | .res5E => .res 5 (.reg .e)
  | .res5H => .res 5 (.reg .h)
  | .res5L => .res 5 (.reg .l)
  | .res5MemHl => .res 5 .memHl
  | .res5A => .res 5 (.reg .a)
  | .res6B => .res 6 (.reg .b)
  | .res6C => .res 6 (.reg .c)
  | .res6D => .res 6 (.reg .d)
  | .res6E => .res 6 (.reg .e)
  | .res6H => .res 6 (.reg .h)
  | .res6L => .res 6 (.reg .l)
  | .res6MemHl => .res 6 .memHl
  | .res6A => .res 6 (.reg .a)
  | .res7B => .res 7 (.reg .b)
  | .res7C => .res 7 (.reg .c)
  | .res7D => .res 7 (.reg .d)
  | .res7E => .res 7 (.reg .e)
  | .res7H => .res 7 (.reg .h)
  | .res7L => .res 7 (.reg .l)
  | .res7MemHl => .res 7 .memHl
  | .res7A => .res 7 (.reg .a)
  | .set0B => .set 0 (.reg .b)
  | .set0C => .set 0 (.reg .c)
  | .set0D => .set 0 (.reg .d)
  | .set0E => .set 0 (.reg .e)
  | .set0H => .set 0 (.reg .h)
  | .set0L => .set 0 (.reg .l)
  | .set0MemHl => .set 0 .memHl
  | .set0A => .set 0 (.reg .a)
  | .set1B => .set 1 (.reg .b)
  | .set1C => .set 1 (.reg .c)
  | .set1D => .set 1 (.reg .d)
  | .set1E => .set 1 (.reg .e)
  | .set1H => .set 1 (.reg .h)
  | .set1L => .set 1 (.reg .l)
  | .set1MemHl => .set 1 .memHl
  | .set1A => .set 1 (.reg .a)
  | .set2B => .set 2 (.reg .b)
  | .set2C => .set 2 (.reg .c)
  | .set2D => .set 2 (.reg .d)
  | .set2E => .set 2 (.reg .e)
  | .set2H => .set 2 (.reg .h)
  | .set2L => .set 2 (.reg .l)
  | .set2MemHl => .set 2 .memHl
  | .set2A => .set 2 (.reg .a)
  | .set3B => .set 3 (.reg .b)
  | .set3C => .set 3 (.reg .c)
  | .set3D => .set 3 (.reg .d)
  | .set3E => .set 3 (.reg .e)
  | .set3H => .set 3 (.reg .h)
  | .set3L => .set 3 (.reg .l)
  | .set3MemHl => .set 3 .memHl
  | .set3A => .set 3 (.reg .a)
  | .set4B => .set 4 (.reg .b)
  | .set4C => .set 4 (.reg .c)
  | .set4D => .set 4 (.reg .d)
  | .set4E => .set 4 (.reg .e)
  | .set4H => .set 4 (.reg .h)
  | .set4L => .set 4 (.reg .l)
  | .set4MemHl => .set 4 .memHl
  | .set4A => .set 4 (.reg .a)
  | .set5B => .set 5 (.reg .b)
  | .set5C => .set 5 (.reg .c)
  | .set5D => .set 5 (.reg .d)
  | .set5E => .set 5 (.reg .e)
  | .set5H => .set 5 (.reg .h)
  | .set5L => .set 5 (.reg .l)
  | .set5MemHl => .set 5 .memHl
  | .set5A => .set 5 (.reg .a)
  | .set6B => .set 6 (.reg .b)
  | .set6C => .set 6 (.reg .c)
  | .set6D => .set 6 (.reg .d)
  | .set6E => .set 6 (.reg .e)
  | .set6H => .set 6 (.reg .h)
  | .set6L => .set 6 (.reg .l)
  | .set6MemHl => .set 6 .memHl
  | .set6A => .set 6 (.reg .a)
  | .set7B => .set 7 (.reg .b)
  | .set7C => .set 7 (.reg .c)
  | .set7D => .set 7 (.reg .d)
  | .set7E => .set 7 (.reg .e)
  | .set7H => .set 7 (.reg .h)
  | .set7L => .set 7 (.reg .l)
  | .set7MemHl => .set 7 .memHl
  | .set7A => .set 7 (.reg .a)

/-- The form of the instruction an opcode byte and two bytes after it make in the first table (R130). -/
def firstForm (op n m : Byte) : Option Machine.Form :=
  match decodeFirst [op, n, m] with
  | .ok (i, _) => some i.form
  | .error _ => none

end Sys2Proof
end

