-- ==== Sys2Proof/Safety.lean ====
section
/-! DEFINITION. The terms claims are stated in: what a charge, a read and a write leave behind, when they cannot end the
run, what ticks may change, and the invariant of the machine. -/

namespace Sys2Proof.Machine

/-! ### The state after an operation -/

/-- The state an operation leaves, whether it completes or raises. -/
def State.after {α : Type} (op : Op α) (s : State) : State :=
  match op s with
  | .ok _ t => t
  | .error _ t => t

/-- The state `m` machine cycles later, with no access made (R72). -/
def State.later (m : Nat) (s : State) : State := s.after (charge m)

/-- The byte an uncharged read of an address returns now (R81); the sentinel where it raises. -/
def State.peek (s : State) (a : Addr) : Byte :=
  match busRead a s with
  | .ok v _ => v
  | .error _ _ => s.params.sentinel

/-- The state an uncharged read of an address leaves (R89). -/
def State.loaded (s : State) (a : Addr) : State := s.after (busRead a)

/-- The state an uncharged write leaves (R82). -/
def State.stored (s : State) (a : Addr) (v : Byte) : State := s.after (busWrite a v)

/-! ### Accesses that cannot end the run (R489) -/

/-- A cartridge of the banked variant with no RAM, the only one whose RAM window can end a run (R489). -/
def Cart.ramless (c : Cart) : Bool := decide (c.mapper = .banked) && decide (c.ramSize = 0)

/-- A transfer in progress has its cursors in step: the destination in OAM or just past it, the source as far into its page
(R461, R462). -/
def Dma.ok (d : Dma) : Bool :=
  !d.active ||
    (decide (0xFE00 ≤ d.dst.toNat) && decide (d.dst.toNat ≤ 0xFEA0) && decide (loByte d.src = loByte d.dst))

/-- Ticks cannot end the run: no transfer is reading the RAM window of a RAM-less cartridge whose latch is set. -/
def State.chargeSafe (s : State) : Prop :=
  s.dma.ok = true ∧ (s.cart.ramMissing = true → s.dma.active = true → region s.dma.src ≠ .extRam)

/-- A charged access to an address cannot end the run either. -/
def State.accessSafe (s : State) (a : Addr) : Prop :=
  s.chargeSafe ∧ (s.cart.ramMissing = true → region a ≠ .extRam)

/-- A store that cannot make a later access end the run: into a RAM-less cartridge's latch, or to the DMA trigger beside
one, is excluded. -/
def State.storeSafe (s : State) (a : Addr) : Prop :=
  s.cart.ramless = true → 0x2000 ≤ a.toNat ∧ a ≠ 0xFF46

/-- The two addresses a push writes are safe. -/
def State.pushSafe (s : State) : Prop :=
  s.accessSafe (s.cpu.sp - 1) ∧ s.storeSafe (s.cpu.sp - 1) ∧ s.accessSafe (s.cpu.sp - 2)

/-- The two addresses a pop reads are safe. -/
def State.popSafe (s : State) : Prop := s.accessSafe s.cpu.sp ∧ s.accessSafe (s.cpu.sp + 1)

/-- Reading an address now and reading it some ticks later give the same byte: it is no I/O register, no byte of OAM while a
transfer runs, and no RAM the cartridge has not got. -/
def State.steady (s : State) (a : Addr) : Prop :=
  region a ≠ .io ∧ (region a = .oam → s.dma.active = false) ∧
    (region a = .extRam → s.cart.ramMissing = false)

/-! ### Pushing and popping (R11) -/

/-- The state after `idle` internal cycles and the push of a word, high byte first; a later write sees the ticks between. -/
def State.pushed (s : State) (idle : Nat) (v : BitVec 16) : State :=
  let t := (s.later (idle + 1)).stored (s.cpu.sp - 1) (hiByte v)
  { (t.later 1).stored (s.cpu.sp - 2) (loByte v) with cpu := { s.cpu with sp := s.cpu.sp - 2 } }

/-- The word a pop reads, low byte first. -/
def State.poppedWord (s : State) : BitVec 16 :=
  let t := (s.later 1).loaded s.cpu.sp
  concat8 ((t.later 1).peek (s.cpu.sp + 1)) ((s.later 1).peek s.cpu.sp)

/-- The state a pop leaves. -/
def State.popped (s : State) : State :=
  let t := (s.later 1).loaded s.cpu.sp
  { (t.later 1).loaded (s.cpu.sp + 1) with cpu := { s.cpu with sp := s.cpu.sp + 2 } }

/-! ### Reading an operand -/

/-- The value of a place, read after a charge where it is memory. -/
def Place.value (x : Place) (s : State) : Byte :=
  match x with
  | .reg r => s.cpu.reg8 r
  | .memHl => (s.later 1).peek s.cpu.hl

/-- The state the reading of a place leaves. -/
def Place.read (x : Place) (s : State) : State :=
  match x with
  | .reg _ => s
  | .memHl => (s.later 1).loaded s.cpu.hl

/-- A place can be read, and written, without ending the run. -/
def Place.safe (x : Place) (s : State) : Prop :=
  match x with
  | .reg _ => True
  | .memHl => s.accessSafe s.cpu.hl

/-- The state after a value has been put into a place and the CPU changed to `c`: memory is written one machine cycle
after it was read. -/
def Place.written (x : Place) (s : State) (c : Cpu) (v : Byte) : State :=
  match x with
  | .reg r => { s with cpu := c.setReg8 r v }
  | .memHl => { ((x.read s).later 1).stored s.cpu.hl v with cpu := c }

/-- The value of a source operand. -/
def Source.value (x : Source) (s : State) : Byte :=
  match x with
  | .reg r => s.cpu.reg8 r
  | .memHl => Place.memHl.value s
  | .imm n => n

/-- The state the reading of a source operand leaves. -/
def Source.read (x : Source) (s : State) : State :=
  match x with
  | .memHl => Place.memHl.read s
  | _ => s

/-- A source operand can be read without ending the run. -/
def Source.safe (x : Source) (s : State) : Prop :=
  match x with
  | .memHl => s.accessSafe s.cpu.hl
  | _ => True

/-! ### What ticks may change -/

/-- `t` is `s` some ticks later, as far as what ticks leave alone goes: the CPU, the registers only writes change, the
cartridge and every byte of memory outside OAM; requests are only added, never the serial one (R70, R302, R306). -/
structure Ticked (n : Nat) (s t : State) : Prop where
  clk : t.clk = s.clk + n
  cpu : t.cpu = s.cpu
  ie : t.ie = s.ie
  requestsKept : s.iflag &&& t.iflag = s.iflag
  serialKept : t.iflag.getLsbD 3 = s.iflag.getLsbD 3
  memory : ∀ a : Addr, region a ≠ .oam → t.mem.read a.toNat = s.mem.read a.toNat
  idleDma : s.dma.active = false → t.mem = s.mem ∧ t.dma = s.dma
  cart : t.cart = s.cart
  timerRegisters : t.timer.tma = s.timer.tma ∧ t.timer.tac = s.timer.tac
  displayRegisters : t.display.lcdc = s.display.lcdc ∧ t.display.statEn = s.display.statEn ∧
    t.display.scy = s.display.scy ∧ t.display.scx = s.display.scx ∧ t.display.lyc = s.display.lyc ∧
    t.display.bgp = s.display.bgp ∧ t.display.obp0 = s.display.obp0 ∧ t.display.obp1 = s.display.obp1 ∧
    t.display.wy = s.display.wy ∧ t.display.wx = s.display.wx
  dmaRegister : t.dma.reg = s.dma.reg
  inputs : t.joypad.sel = s.joypad.sel ∧ t.joypad.buttons = s.joypad.buttons ∧ t.hostInput = s.hostInput
  audioStub : t.audioStub = s.audioStub
  params : t.params = s.params
  emits : s.emits <:+ t.emits

/-! ### The invariant -/

/-- What is always true of the CPU between two steps (R27, R311, R318). -/
structure Cpu.Inv (c : Cpu) : Prop where
  lowFlags : c.f &&& 0x0F = 0
  haltBugUsed : c.haltBug = false
  oneMode : ¬ (c.halted = true ∧ c.prefixedPending = true)

/-- What is always true of the timer between two ticks (R353, R354 a). -/
structure Timer.Inv (t : Timer) : Prop where
  notAborted : t.tstate ≠ .aborted
  idleCount : t.tstate ≠ .pending → t.tcycles = 0
  pendingCount : t.tcycles ≤ 4

/-- What is always true of the display controller between two ticks: the ranges of its counters, queues and buffer
(R40 to R42), sprites buffered with a nonzero X (R381), and the modes of the scanlines (R426). -/
structure Display.Inv (d : Display) : Prop where
  ly : d.ly.toNat ≤ 153
  lx : d.lx ≤ 160
  dot : d.dot < 456
  sprites : d.spr.length ≤ 10
  spriteX : ∀ p ∈ d.spr, p.x ≠ 0
  asked : d.asked.length = 10
  fSub : d.fSub ≤ 2
  layer : ∀ i, d.fLayer = .spr i → i < d.spr.length
  discard : d.discard ≤ 7
  bgFifo : d.bgFifo.size ≤ 8
  spFifo : d.spFifo.size ≤ 8
  vblank : d.mode = .vblank ↔ 144 ≤ d.ly.toNat
  vblankColumn : d.mode = .vblank → d.lx = 0
  scan : d.mode = .scan → d.dot < 80 ∧ d.lx = 0
  drawing : d.mode = .drawing → 80 ≤ d.dot ∧ d.lx < 160

/-- What is always true of the DMA machine (R48, R463). -/
structure Dma.Inv (d : Dma) : Prop where
  cursors : d.ok = true
  wait : d.wait ≤ 4

/-- What is always true of the cartridge: its memories are in canonical form, its RAM lies within its size, and a zero
written to the bank selector was taken as one (R480, R486). -/
structure Cart.Inv (c : Cart) : Prop where
  rom : c.rom.wf = true
  ram : c.ram.wf = true
  ramWithin : ∀ x ∈ c.ram, x.1 < c.ramSize
  bank1 : c.bank1 ≠ 0

/-- What is always true of the storage arrays: canonical form, and addresses of the arrays only (R35). -/
structure Memory.Inv (m : Memory) : Prop where
  wf : m.wf = true
  storage : ∀ x ∈ m, x.1 < 0x10000 ∧ isStorage (BitVec.ofNat 16 x.1) = true

/-- Everything but the CPU. -/
structure State.DevicesInv (s : State) : Prop where
  mem : Memory.Inv s.mem
  timer : s.timer.Inv
  display : s.display.Inv
  dma : s.dma.Inv
  cart : s.cart.Inv

/-- The invariant of the machine between two steps. -/
structure State.Inv (s : State) : Prop where
  cpu : s.cpu.Inv
  devices : s.DevicesInv

/-! ### Runs that do not end -/

/-- No step can end the run: STOP and the unused opcodes are the no-ops D14 and U1 name, and the cartridge is no RAM-less
banked one. -/
def State.endless (s : State) : Prop :=
  s.params.stopOutcome = .noOp ∧ s.params.illegalOutcome = .noOp ∧ s.cart.ramless = false

end Sys2Proof.Machine
end

