-- ==== Sys2Proof/Certificates/Slice0/Obligations.lean ====
section
/-! DEFINITION. The statements for the provers. Each docstring names the rules it states. Where a statement speaks of an
instruction it speaks of every constructor whose form (`Instr.form`) it names. -/

open Sys2Proof Sys2Proof.Machine

/-! ### Encoding -/

/-- Decoding the bytes of an instruction gives it back, with every immediate, whatever follows it: read as a program holds
it, and read as the machine fetches it. The prefix 0xCB alone is the one whose next byte belongs to it (R123). -/
def Obligations.DecodeOfEncode : Prop :=
  ∀ (i : Instr) (rest : List Byte), i.wellFormed = true →
    (i ≠ .prefixCb → decode (encode i ++ rest) = .ok (i, rest)) ∧
    decode (encode .prefixCb) = .ok (.prefixCb, []) ∧
    (i.isSecondTable = true → decodeSecond (fetchedBytes i ++ rest) = .ok (i, rest)) ∧
    (i.isSecondTable = false → i ≠ .stop → decodeFirst (fetchedBytes i ++ rest) = .ok (i, rest)) ∧
    decodeFirst (fetchedBytes .stop) = .ok (.stop, [])

/-- Every byte list that decodes is the encoding of what it decodes to, but for STOP's second byte, which may be anything
or missing (R134). -/
def Obligations.EncodeOfDecode : Prop :=
  ∀ (bs rest : List Byte) (i : Instr), decode bs = .ok (i, rest) →
    (i ≠ .stop → encode i ++ rest = bs) ∧ (i = .stop → ∃ tail, bs = 0x10 :: tail ∧ rest = tail.drop 1)

/-- The two opcode maps, by the fields of the opcode byte (R130, R131); `n` and `m` are the bytes after it. The last
clauses list the entries of the first table outside its regularities, its eleven unused values among them. -/
def Obligations.OpcodeMaps : Prop :=
  ∀ (n m : Byte),
    (∀ y z : BitVec 3, firstForm (0b01#2 ++ y ++ z) n m =
      some (match regField y, regField z with
        | some dst, some r => .ldRegReg dst r
        | some dst, none => .ldRegMem dst
        | none, some r => .ldMemReg r
        | none, none => .halt)) ∧
    (∀ y z : BitVec 3, firstForm (0b10#2 ++ y ++ z) n m = some (.alu (aluField y) (Source.ofField z))) ∧
    (∀ y : BitVec 3, firstForm (0b00#2 ++ y ++ 4#3) n m = some (.inc8 (Place.ofField y)) ∧
      firstForm (0b00#2 ++ y ++ 5#3) n m = some (.dec8 (Place.ofField y)) ∧
      firstForm (0b00#2 ++ y ++ 6#3) n m =
        some (match regField y with
          | some r => .ldRegImm r n
          | none => .ldMemImm n) ∧
      firstForm (0b11#2 ++ y ++ 6#3) n m = some (.alu (aluField y) (.imm n)) ∧
      firstForm (0b11#2 ++ y ++ 7#3) n m = some (.rst y.toFin)) ∧
    (∀ p : BitVec 2, firstForm (0b00#2 ++ p ++ 0b0001#4) n m = some (.ldPairImm (pairField p) (m ++ n)) ∧
      firstForm (0b00#2 ++ p ++ 0b1001#4) n m = some (.addHl (pairField p)) ∧
      firstForm (0b00#2 ++ p ++ 0b0011#4) n m = some (.incPair (pairField p)) ∧
      firstForm (0b00#2 ++ p ++ 0b1011#4) n m = some (.decPair (pairField p)) ∧
      firstForm (0b11#2 ++ p ++ 0b0001#4) n m = some (.pop (stackPairField p)) ∧
      firstForm (0b11#2 ++ p ++ 0b0101#4) n m = some (.push (stackPairField p)) ∧
      firstForm (0b110#3 ++ p ++ 0b000#3) n m = some (.retCond (condField p)) ∧
      firstForm (0b110#3 ++ p ++ 0b010#3) n m = some (.jpCond (condField p) (m ++ n)) ∧
      firstForm (0b110#3 ++ p ++ 0b100#3) n m = some (.callCond (condField p) (m ++ n)) ∧
      firstForm (0b001#3 ++ p ++ 0b000#3) n m = some (.jrCond (condField p) n)) ∧
    (∀ y z : BitVec 3,
      (secondEntry (0b00#2 ++ y ++ z)).form = .rot (rotField y) (Place.ofField z) ∧
      (secondEntry (0b01#2 ++ y ++ z)).form = .bit y.toFin (Place.ofField z) ∧
      (secondEntry (0b10#2 ++ y ++ z)).form = .res y.toFin (Place.ofField z) ∧
      (secondEntry (0b11#2 ++ y ++ z)).form = .set y.toFin (Place.ofField z)) ∧
    firstForm 0x00 n m = some .nop ∧ firstForm 0x10 n m = some .stop ∧ firstForm 0x76 n m = some .halt ∧
    firstForm 0x02 n m = some (.storeA (.pair .bc)) ∧ firstForm 0x12 n m = some (.storeA (.pair .de)) ∧
    firstForm 0x22 n m = some (.storeAStep .inc) ∧ firstForm 0x32 n m = some (.storeAStep .dec) ∧
    firstForm 0x0A n m = some (.loadA (.pair .bc)) ∧ firstForm 0x1A n m = some (.loadA (.pair .de)) ∧
    firstForm 0x2A n m = some (.loadAStep .inc) ∧ firstForm 0x3A n m = some (.loadAStep .dec) ∧
    firstForm 0x07 n m = some (.accRot .rlca) ∧ firstForm 0x0F n m = some (.accRot .rrca) ∧
    firstForm 0x17 n m = some (.accRot .rla) ∧ firstForm 0x1F n m = some (.accRot .rra) ∧
    firstForm 0x27 n m = some .daa ∧ firstForm 0x2F n m = some .cpl ∧
    firstForm 0x37 n m = some .scf ∧ firstForm 0x3F n m = some .ccf ∧
    firstForm 0x08 n m = some (.ldMemSp (m ++ n)) ∧ firstForm 0x18 n m = some (.jr n) ∧
    firstForm 0xC3 n m = some (.jp (m ++ n)) ∧ firstForm 0xCD n m = some (.call (m ++ n)) ∧
    firstForm 0xC9 n m = some .ret ∧ firstForm 0xD9 n m = some .reti ∧
    firstForm 0xE9 n m = some .jpHl ∧ firstForm 0xF9 n m = some .ldSpHl ∧
    firstForm 0xE0 n m = some (.storeA (.high n)) ∧ firstForm 0xF0 n m = some (.loadA (.high n)) ∧
    firstForm 0xE2 n m = some (.storeA .highC) ∧ firstForm 0xF2 n m = some (.loadA .highC) ∧
    firstForm 0xEA n m = some (.storeA (.abs (m ++ n))) ∧ firstForm 0xFA n m = some (.loadA (.abs (m ++ n))) ∧
    firstForm 0xE8 n m = some (.addSp n) ∧ firstForm 0xF8 n m = some (.ldHlSp n) ∧
    firstForm 0xF3 n m = some .di ∧ firstForm 0xFB n m = some .ei ∧ firstForm 0xCB n m = some .prefixCb ∧
    (∀ op ∈ [0xD3, 0xDB, 0xDD, 0xE3, 0xE4, 0xEB, 0xEC, 0xED, 0xF4, 0xFC, 0xFD],
      firstForm op n m = some (.illegal op))

/-- Words written out from the encodings of the spec decode to the instructions they stand for (R120, R130, R131). -/
def Obligations.DecodedWords : Prop :=
  decode [0x00] = .ok (.nop, []) ∧
  decode [0x3E, 0x7F] = .ok (.ldAN 0x7F, []) ∧
  decode [0x31, 0xFE, 0xFF] = .ok (.ldSpNn 0xFFFE, []) ∧
  decode [0xC3, 0x50, 0x01] = .ok (.jpNn 0x0150, []) ∧
  decode [0x18, 0xFD] = .ok (.jrE 0xFD, []) ∧
  decode [0x10, 0x00] = .ok (.stop, []) ∧
  decode [0xCB, 0x37] = .ok (.swapA, []) ∧
  decode [0xCB, 0xDE] = .ok (.set3MemHl, []) ∧
  decode [0xD3] = .ok (.illegalD3, [])

/-! ### The step -/

/-- The bytes at `pc` are fetched and the instruction they decode to is executed, in a step that is not prefixed, not halted
and finds no interrupt to dispatch. A scheduled enable is applied before the fetch; each fetched byte costs a machine cycle
and moves `pc` on (R310, R316 to R319). `steady` addresses read the same through the ticks of the fetches. -/
def Obligations.StepRunsDecodedInstruction : Prop :=
  ∀ (s : State) (i : Instr), s.hostInput = [] → s.cpu.prefixedPending = false → s.cpu.halted = false →
    s.cpu.haltBug = false → (s.cpu.ime = false ∨ s.ie &&& s.iflag = 0) → s.chargeSafe →
    let n := (fetchedBytes i).length
    (∀ k < n, s.steady (s.cpu.pc + BitVec.ofNat 16 k)) →
    decodeFirst ((List.range n).map fun k => s.peek (s.cpu.pc + BitVec.ofNat 16 k)) = .ok (i, []) →
    step s = exec i { s.later n with
      cpu := { s.cpu with
        pc := s.cpu.pc + BitVec.ofNat 16 n, ime := s.cpu.ime || s.cpu.imeSched, imeSched := false
        opAddr := s.cpu.pc } }

/-- With `prefixed_pending` set, the step clears it, fetches one byte and executes it by the second table, whatever `halted`,
`IME`, `ime_sched` and the requests are (R311, R318). -/
def Obligations.PrefixedStep : Prop :=
  ∀ (s : State), s.hostInput = [] → s.cpu.prefixedPending = true → s.chargeSafe → s.steady s.cpu.pc →
    step s = exec (secondEntry (s.peek s.cpu.pc)) { s.later 1 with
      cpu := { s.cpu with
        prefixedPending := false, pc := if s.cpu.haltBug then s.cpu.pc else s.cpu.pc + 1, haltBug := false
        opAddr := s.cpu.pc } }

/-- The halted CPU. With nothing requested and enabled a step costs one machine cycle and fetches nothing. With a request
pending it resumes at no cost: with `IME` set, as a CPU that is not halted; with `IME` clear, the fetch of its opcode does
not advance `pc`, and the same byte is fetched again as the first immediate byte, if the instruction has one, or by the
next step (R312, R313, R318). -/
def Obligations.HaltedStep : Prop :=
  ∀ (s : State), s.hostInput = [] → s.cpu.prefixedPending = false → s.cpu.halted = true → s.chargeSafe →
    (s.ie &&& s.iflag = 0 → step s = .next (s.later 1)) ∧
    (s.cpu.ime = true → s.ie &&& s.iflag ≠ 0 → step s = step { s with cpu := { s.cpu with halted := false } }) ∧
    (s.cpu.ime = false → s.ie &&& s.iflag ≠ 0 → ∀ i : Instr,
      let n := (fetchedBytes i).length
      (∀ k < n, s.steady (s.cpu.pc + BitVec.ofNat 16 k)) →
      decodeFirst (s.peek s.cpu.pc ::
        (List.range (n - 1)).map fun k => s.peek (s.cpu.pc + BitVec.ofNat 16 k)) = .ok (i, []) →
      step s = exec i { s.later n with
        cpu := { s.cpu with
          halted := false, haltBug := false, pc := s.cpu.pc + BitVec.ofNat 16 (n - 1)
          ime := s.cpu.imeSched, imeSched := false, opAddr := s.cpu.pc } })

/-- A step that is not prefixed and finds `IME` set and a request enabled, halted or not, dispatches and then goes on as a
step from where the dispatch went (R310, R312, R315, R320, R325). -/
def Obligations.DispatchComesFirst : Prop :=
  ∀ (s u : State), s.hostInput = [] → s.cpu.prefixedPending = false →
    s.cpu.ime = true → s.ie &&& s.iflag ≠ 0 →
    dispatch { s with cpu := { s.cpu with halted := false } } = .ok () u → step s = step u

/-- The dispatch protocol: `IME` and `ime_sched` are cleared, two idle cycles pass, `pc` is pushed high byte first; the
source is the lowest bit set both in IF after the pushes and in IE between them; its request is cleared and `pc` goes to
its vector. With no bit left the dispatch is cancelled: `pc` goes to 0 and no request is cleared. One more cycle passes.
Nothing else of the CPU changes (R320 to R324). -/
def Obligations.DispatchProtocol : Prop :=
  ∀ (s : State), s.pushSafe → s.storeSafe (s.cpu.sp - 2) →
    let v := s.pushed 2 s.cpu.pc
    let ieSnap := ((s.later 3).stored (s.cpu.sp - 1) (hiByte s.cpu.pc)).ie
    let m := v.iflag &&& ieSnap
    (∀ i < 5, m.getLsbD i = true → (∀ j < i, m.getLsbD j = false) →
      dispatch s = .ok () { ({ v with iflag := v.iflag &&& ~~~(1#5 <<< i) } : State).later 1 with
        cpu := { s.cpu with
          ime := false, imeSched := false, sp := s.cpu.sp - 2, pc := BitVec.ofNat 16 (0x40 + 8 * i) } }) ∧
    (m = 0 →
      dispatch s = .ok () { v.later 1 with
        cpu := { s.cpu with ime := false, imeSched := false, sp := s.cpu.sp - 2, pc := 0x0000 } })

/-- What a dispatch saves, on a stack in the storage arrays with no transfer running: the high byte of `pc` at SP - 1 and the
low byte at SP - 2, and no other byte of the arrays changes; the whole takes 20 ticks (R320, R321). -/
def Obligations.DispatchSavesPc : Prop :=
  ∀ (s u : State), s.dma.active = false → isStorage (s.cpu.sp - 1) = true → isStorage (s.cpu.sp - 2) = true →
    dispatch s = .ok () u →
    u.peek (s.cpu.sp - 1) = hiByte s.cpu.pc ∧ u.peek (s.cpu.sp - 2) = loByte s.cpu.pc ∧
    (∀ a, isStorage a = true → a ≠ s.cpu.sp - 1 → a ≠ s.cpu.sp - 2 → u.peek a = s.peek a) ∧
    u.clk = s.clk + 20 ∧ u.ie = s.ie

/-- A host event between two steps sets the buttons and polls: a line that fell since the last poll requests the input
interrupt. The step then goes on from the changed state (R473, R476). The queue of events is the model's own
(assumption 9). -/
def Obligations.HostPoll : Prop :=
  ∀ (s : State) (b : Buttons) (rest : List (Option Buttons)), s.hostInput = some b :: rest →
    let j : Joypad := { s.joypad with buttons := b }
    beginStep s = cpuStepPhases { s with
      hostInput := rest, joypad := { j with prev := j.low }
      iflag := s.iflag ||| (if s.joypad.prev &&& ~~~j.low = 0 then 0 else 0b10000) }

/-! ### Whole-machine properties -/

/-- No step refuses, and where the no-op alternatives of D14 and U1 are chosen and the cartridge is no RAM-less banked one,
every step gives a next state of the same kind: the run never ends (R16, R334). -/
def Obligations.EndlessRun : Prop :=
  ∀ (s : State), (∀ r, step s ≠ .refused r) ∧ (s.endless → ∃ t, step s = .next t ∧ t.endless)

/-- The only ways a step ends the run: an unused opcode, STOP, or an access to the RAM of a banked cartridge that has none
while its latch is set; each reports what the spec says it reports (R325, R330 to R332, R334). -/
def Obligations.TerminalOutcomes : Prop :=
  ∀ (s : State) (f : Fault), step s = .fault f →
    (∃ op k, f = .illegalOpcode op k.cpu.opAddr k ∧ k.params.illegalOutcome = .fault ∧
      op ∈ [0xD3, 0xDB, 0xDD, 0xE3, 0xE4, 0xEB, 0xEC, 0xED, 0xF4, 0xFC, 0xFD]) ∨
    (∃ k, f = .stopped k.cpu.pc k ∧ k.params.stopOutcome = .terminal) ∨
    (∃ k, f = .configError .noRam k ∧ k.cart.ramMissing = true)

/-- Every step that gives a next state keeps the invariant (R20, R27, R35, R38, R40 to R42, R48, R311, R353, R354 a, R426,
R480). -/
def Obligations.StepKeepsInvariant : Prop :=
  ∀ (s t : State), s.Inv → step s = .next t → t.Inv

/-- The reset state meets the invariant. -/
def Obligations.ResetMeetsInvariant : Prop := State.reset.Inv

/-- No step changes the ROM, the mapper variant, the sizes of the cartridge's memories or the parameters; the clock only
advances, by whole machine cycles and at least one; pixels once emitted stay emitted (R33, R36, R72, R480). -/
def Obligations.StepKeepsConfiguration : Prop :=
  ∀ (s t : State), step s = .next t →
    t.cart.rom = s.cart.rom ∧ t.cart.mapper = s.cart.mapper ∧ t.cart.nbanks = s.cart.nbanks ∧
    t.cart.ramSize = s.cart.ramSize ∧ t.params = s.params ∧ s.emits <:+ t.emits ∧
    ∃ n, 1 ≤ n ∧ t.clk = s.clk + 4 * n

/-- The cost of every instruction, in machine cycles of four ticks: the cycles its meaning charges and those of its fetches
(the prefix's included) make the total of R521, taken or not taken as its condition says. -/
def Obligations.CycleCost : Prop :=
  ∀ (i : Instr) (s t : State), exec i s = .next t →
    t.clk + 4 * (if i.isSecondTable then 2 else (fetchedBytes i).length) =
      s.clk + 4 * i.form.cost (i.form.taken s.cpu)

/-- The reset state (R501), as far as the spec gives it: for every value of the parameters of R6 that reset reads, and
what the spec decides them to be. The arguments INIT_RAM, CART and host events, the byte of the audio stub and what an
empty queue's array holds are not the spec's. -/
def Obligations.ResetState : Prop :=
  ∀ (p : Params) (v : ResetValues) (ram : Memory) (cart : Cart) (host : List (Option Buttons)),
    let s := State.boot p v ram cart host
    s.cpu.pc = 0x0100 ∧ s.cpu.a = v.regs.a ∧ s.cpu.f = v.regs.f &&& 0xF0 ∧ s.cpu.b = v.regs.b ∧ s.cpu.c = v.regs.c ∧
    s.cpu.d = v.regs.d ∧ s.cpu.e = v.regs.e ∧ s.cpu.h = v.regs.h ∧ s.cpu.l = v.regs.l ∧ s.cpu.sp = v.regs.sp ∧
    s.cpu.halted = false ∧ s.cpu.haltBug = false ∧ s.cpu.prefixedPending = false ∧ s.cpu.ime = false ∧
    s.cpu.imeSched = false ∧ s.clk = 0 ∧ s.mem = ram ∧ s.peek 0xFFFF = 0xE0 ∧ s.iflag = v.iflag ∧
    s.timer = { div := v.div, tima := 0, tma := 0, tac := 0, tstate := .normal, tcycles := 0, prevAnd := false } ∧
    s.display.ly = v.ppu.ly ∧ s.display.lx = 0 ∧ s.display.mode = .scan ∧ s.display.dot = 0 ∧
    s.display.spr = [] ∧ s.display.wyMatched = false ∧ s.display.windowLine = 0 ∧ s.display.winEngaged = false ∧
    s.display.statLine = false ∧ s.display.lineReset = s.display ∧ s.display.lcdc = v.ppu.lcdc ∧
    s.display.statEn = v.ppu.statEn ∧ s.display.scy = v.ppu.scy ∧ s.display.scx = v.ppu.scx ∧
    s.display.lyc = v.ppu.lyc ∧ s.display.bgp = v.ppu.bgp ∧ s.display.obp0 = v.ppu.obp0 ∧
    s.display.obp1 = v.ppu.obp1 ∧ s.display.wy = v.ppu.wy ∧ s.display.wx = v.ppu.wx ∧
    s.dma = { src := 0, dst := 0, wait := 0, active := false, reg := v.ppu.dma } ∧ s.joypad.sel = 0b11 ∧
    s.joypad.prev = 0b1111 ∧ s.joypad.buttons = Buttons.released ∧ s.cart = cart ∧
    (v = Config.resetValues →
      s.cpu.a = 0x01 ∧ s.cpu.f = 0xB0 ∧ s.cpu.b = 0x00 ∧ s.cpu.c = 0x13 ∧ s.cpu.d = 0x00 ∧ s.cpu.e = 0xD8 ∧
      s.cpu.h = 0x01 ∧ s.cpu.l = 0x4D ∧ s.cpu.sp = 0xFFFE ∧ s.timer.div = 0xABCC ∧ s.peek 0xFF0F = 0xE1 ∧
      s.display.ly = 0 ∧ s.display.lcdc = 0x91 ∧ s.display.statEn = 0 ∧ s.display.scy = 0 ∧ s.display.scx = 0 ∧
      s.display.lyc = 0 ∧ s.display.bgp = 0xFC ∧ s.display.obp0 = 0xFF ∧ s.display.obp1 = 0xFF ∧
      s.display.wy = 0 ∧ s.display.wx = 0 ∧ s.dma.reg = 0xFF) ∧
    (∃ ram' cart' host', State.reset = State.boot Config.params Config.resetValues ram' cart' host') ∧
    (∀ image len ram' c, Cart.load image len ram' = .ok c →
      c.bank1 = 1 ∧ c.bank2 = 0 ∧ c.ramEn = false ∧ c.bmode = false)

/-- What ticks change, and that they cannot end the run where no transfer reads RAM that is not there (R70, R71, R302,
R306). -/
def Obligations.TicksFrame : Prop :=
  ∀ (n : Nat) (s : State), s.chargeSafe → ∃ t, ticks n s = .ok () t ∧ Ticked n s t ∧ t.chargeSafe

/-! ### The bus -/

/-- A byte stored in the storage arrays is what the next read of its address returns; every other address of the arrays
reads as before, no other state changes and the canonical form is kept (R82, R95, R98). -/
def Obligations.StorageReadsBack : Prop :=
  ∀ (s : State) (a : Addr) (v : Byte), isStorage a = true →
    busWrite a v s = .ok () (s.stored a v) ∧ (s.stored a v).peek a = v ∧
    (∀ b, b ≠ a → isStorage b = true → (s.stored a v).peek b = s.peek b) ∧
    s.stored a v = { s with mem := (s.stored a v).mem } ∧
    (Memory.Inv s.mem → Memory.Inv (s.stored a v).mem)

/-- The address map: what an address reads, region by region, and what a write does in the regions that are no I/O
registers (R80 to R83, R37). -/
def Obligations.AddressMap : Prop :=
  ∀ (s : State) (a : Addr) (v : Byte),
    let n := a.toNat
    (n < 0x8000 → busRead a s = .ok (s.cart.readRom a) s ∧
      busWrite a v s = .ok () { s with cart := s.cart.writeRom a v }) ∧
    ((0x8000 ≤ n ∧ n < 0xA000) ∨ (0xC000 ≤ n ∧ n < 0xE000) ∨ (0xFE00 ≤ n ∧ n < 0xFEA0) ∨
        (0xFF80 ≤ n ∧ n < 0xFFFF) →
      busRead a s = .ok (s.mem.read n) s ∧ busWrite a v s = .ok () { s with mem := s.mem.write n v }) ∧
    (0xA000 ≤ n ∧ n < 0xC000 → s.cart.ramMissing = false →
      busRead a s = .ok (s.cart.readRam s.params.sentinel a) s ∧
      busWrite a v s = .ok () { s with cart := s.cart.writeRam a v }) ∧
    ((0xE000 ≤ n ∧ n < 0xFE00) ∨ (0xFEA0 ≤ n ∧ n < 0xFF00) →
      busRead a s = .ok s.params.sentinel s ∧ busWrite a v s = .ok () s) ∧
    (n = 0xFFFF → busRead a s = .ok (0xE0#8 ||| s.ie.setWidth 8) s ∧
      busWrite a v s = .ok () { s with ie := v.setWidth 5 })

/-- What every address of the I/O page reads (R37, R39, R43, R49, R52, R348, R452, R474); only 0xFF00 changes anything
(R89). -/
def Obligations.IoReads : Prop :=
  ∀ (s : State),
    busRead 0xFF00 s = .ok (0xC0#8 ||| (s.joypad.sel.setWidth 8 <<< 4) ||| s.joypad.low.setWidth 8) s.poll ∧
    (s.params.divLoMapped = true → busRead 0xFF03 s = .ok (s.timer.div.setWidth 8) s) ∧
    busRead 0xFF04 s = .ok ((s.timer.div >>> 8).setWidth 8) s ∧
    busRead 0xFF05 s = .ok s.timer.tima s ∧ busRead 0xFF06 s = .ok s.timer.tma s ∧
    busRead 0xFF07 s = .ok (0xF8#8 ||| s.timer.tac.setWidth 8) s ∧
    busRead 0xFF0F s = .ok (0xE0#8 ||| s.iflag.setWidth 8) s ∧
    busRead 0xFF40 s = .ok s.display.lcdc s ∧
    busRead 0xFF41 s = .ok (0x80#8 ||| (s.display.statEn.setWidth 8 <<< 3) |||
      (if s.display.ly = s.display.lyc then 4 else 0) ||| s.display.mode.bits.setWidth 8) s ∧
    busRead 0xFF42 s = .ok s.display.scy s ∧ busRead 0xFF43 s = .ok s.display.scx s ∧
    busRead 0xFF44 s = .ok s.display.ly s ∧ busRead 0xFF45 s = .ok s.display.lyc s ∧
    busRead 0xFF46 s = .ok s.dma.reg s ∧ busRead 0xFF47 s = .ok s.display.bgp s ∧
    busRead 0xFF48 s = .ok s.display.obp0 s ∧ busRead 0xFF49 s = .ok s.display.obp1 s ∧
    busRead 0xFF4A s = .ok s.display.wy s ∧ busRead 0xFF4B s = .ok s.display.wx s ∧
    (∀ a : Addr, 0xFF00 ≤ a.toNat → a.toNat < 0xFF80 →
      a ∉ [0xFF00, 0xFF04, 0xFF05, 0xFF06, 0xFF07, 0xFF0F, 0xFF40, 0xFF41, 0xFF42, 0xFF43, 0xFF44, 0xFF45,
        0xFF46, 0xFF47, 0xFF48, 0xFF49, 0xFF4A, 0xFF4B] →
      (a = 0xFF03 → s.params.divLoMapped = false) → s.params.audioStubAddr ≠ some a →
      busRead a s = .ok s.params.sentinel s ∧ ∀ v, busWrite a v s = .ok () s)

/-- What a write to an I/O register other than the timer's and the DMA trigger does; nothing else changes (R37, R43, R49,
R303, R372, R475). -/
def Obligations.IoWrites : Prop :=
  ∀ (s : State) (v : Byte),
    busWrite 0xFF00 v s = .ok () { s with joypad := { s.joypad with sel := (v >>> 4).setWidth 2 } } ∧
    busWrite 0xFF0F v s = .ok () { s with iflag := v.setWidth 5 } ∧
    busWrite 0xFF40 v s = .ok () { s with display := { s.display with lcdc := v } } ∧
    busWrite 0xFF41 v s = .ok () { s with display := { s.display with statEn := (v >>> 3).setWidth 4 } } ∧
    busWrite 0xFF42 v s = .ok () { s with display := { s.display with scy := v } } ∧
    busWrite 0xFF43 v s = .ok () { s with display := { s.display with scx := v } } ∧
    busWrite 0xFF44 v s = .ok () s ∧
    busWrite 0xFF45 v s = .ok () { s with display := { s.display with lyc := v } } ∧
    busWrite 0xFF47 v s = .ok () { s with display := { s.display with bgp := v } } ∧
    busWrite 0xFF48 v s = .ok () { s with display := { s.display with obp0 := v } } ∧
    busWrite 0xFF49 v s = .ok () { s with display := { s.display with obp1 := v } } ∧
    busWrite 0xFF4A v s = .ok () { s with display := { s.display with wy := v } } ∧
    busWrite 0xFF4B v s = .ok () { s with display := { s.display with wx := v } }

/-- Where an access to the RAM window of a banked cartridge without RAM ends the run, its latch being set and no transfer
running: at the access, after its four ticks, for every instruction whose first access after its fetches is there: the
loads and stores, the arithmetic, INC, DEC, rotate, shift and bit forms on (HL), LD (nn),SP, POP, RET, RETI, RET cc taken
(one internal cycle later), and PUSH, CALL, CALL cc taken and RST (one internal cycle later, SP then being one less).
With the latch clear it reads the sentinel and drops writes (R332, R489). -/
def Obligations.NoRamFault : Prop :=
  ∀ (i : Instr) (s : State),
    (s.cart.ramMissing = true → s.dma.active = false →
      (∀ x, i.form = .loadA x ∨ i.form = .storeA x → region (x.addr s.cpu) = .extRam →
        exec i s = .fault (.configError .noRam (s.later 1))) ∧
      (region s.cpu.hl = .extRam →
        ((∃ r, i.form = .ldRegMem r ∨ i.form = .ldMemReg r) ∨ (∃ n, i.form = .ldMemImm n) ∨
          (∃ h, i.form = .loadAStep h ∨ i.form = .storeAStep h) ∨ (∃ op, i.form = .alu op .memHl) ∨
          i.form = .inc8 .memHl ∨ i.form = .dec8 .memHl ∨ (∃ op, i.form = .rot op .memHl) ∨
          (∃ b, i.form = .bit b .memHl ∨ i.form = .res b .memHl ∨ i.form = .set b .memHl)) →
        exec i s = .fault (.configError .noRam (s.later 1))) ∧
      (∀ nn, i.form = .ldMemSp nn → region nn = .extRam →
        exec i s = .fault (.configError .noRam (s.later 1))) ∧
      (region s.cpu.sp = .extRam →
        ((∃ p, i.form = .pop p) ∨ i.form = .ret ∨ i.form = .reti →
          exec i s = .fault (.configError .noRam (s.later 1))) ∧
        (∀ cc, i.form = .retCond cc → s.cpu.cond cc = true →
          exec i s = .fault (.configError .noRam (s.later 2)))) ∧
      (region (s.cpu.sp - 1) = .extRam →
        ((∃ p, i.form = .push p) ∨ (∃ nn, i.form = .call nn) ∨
          (∃ cc nn, i.form = .callCond cc nn ∧ s.cpu.cond cc = true) ∨ (∃ y, i.form = .rst y)) →
        exec i s = .fault (.configError .noRam { s.later 2 with cpu := { s.cpu with sp := s.cpu.sp - 1 } }))) ∧
    (∀ a v, s.cart.mapper = .banked → s.cart.ramEn = false → region a = .extRam →
      busRead a s = .ok s.params.sentinel s ∧ busWrite a v s = .ok () s)

/-! ### 8-bit loads -/

/-- Loads between registers and of an immediate: nothing else changes (R151, R152). -/
def Obligations.RegisterLoads : Prop :=
  ∀ (i : Instr) (s : State),
    (∀ dst src, i.form = .ldRegReg dst src →
      exec i s = .next { s with cpu := s.cpu.setReg8 dst (s.cpu.reg8 src) }) ∧
    (∀ dst n, i.form = .ldRegImm dst n → exec i s = .next { s with cpu := s.cpu.setReg8 dst n })

/-- Loads from memory: one machine cycle, then the byte at the address, then the register; HL moves afterwards in the
stepping forms. No flag and no other register changes (R153, R156, R157, R160, R162, R164, R166, R168, R170). -/
def Obligations.MemoryLoads : Prop :=
  ∀ (i : Instr) (s : State),
    (∀ r, i.form = .ldRegMem r → s.accessSafe s.cpu.hl →
      exec i s = .next { (s.later 1).loaded s.cpu.hl with
        cpu := s.cpu.setReg8 r ((s.later 1).peek s.cpu.hl) }) ∧
    (∀ x a, i.form = .loadA x →
      a = (match x with
        | .pair .bc => s.cpu.b ++ s.cpu.c
        | .pair .de => s.cpu.d ++ s.cpu.e
        | .abs nn => nn
        | .highC => 0xFF#8 ++ s.cpu.c
        | .high n => 0xFF#8 ++ n) →
      s.accessSafe a →
      exec i s = .next { (s.later 1).loaded a with cpu := { s.cpu with a := (s.later 1).peek a } }) ∧
    (∀ h, i.form = .loadAStep h → s.accessSafe s.cpu.hl →
      let hl' := match h with
        | .inc => s.cpu.hl + 1
        | .dec => s.cpu.hl - 1
      exec i s = .next { (s.later 1).loaded s.cpu.hl with
        cpu := { s.cpu with a := (s.later 1).peek s.cpu.hl, h := hiByte hl', l := loByte hl' } })

/-- Stores to memory: one machine cycle, then the write; HL moves afterwards in the stepping forms. No flag and no other
register changes. SP is stored low byte first, the high byte a machine cycle later (R154, R155, R158, R159, R161, R163,
R165, R167, R169, R181). -/
def Obligations.MemoryStores : Prop :=
  ∀ (i : Instr) (s : State),
    (∀ r, i.form = .ldMemReg r → s.accessSafe s.cpu.hl →
      exec i s = .next ((s.later 1).stored s.cpu.hl (s.cpu.reg8 r))) ∧
    (∀ n, i.form = .ldMemImm n → s.accessSafe s.cpu.hl → exec i s = .next ((s.later 1).stored s.cpu.hl n)) ∧
    (∀ x a, i.form = .storeA x →
      a = (match x with
        | .pair .bc => s.cpu.b ++ s.cpu.c
        | .pair .de => s.cpu.d ++ s.cpu.e
        | .abs nn => nn
        | .highC => 0xFF#8 ++ s.cpu.c
        | .high n => 0xFF#8 ++ n) →
      s.accessSafe a → exec i s = .next ((s.later 1).stored a s.cpu.a)) ∧
    (∀ h, i.form = .storeAStep h → s.accessSafe s.cpu.hl →
      let hl' := match h with
        | .inc => s.cpu.hl + 1
        | .dec => s.cpu.hl - 1
      exec i s = .next { (s.later 1).stored s.cpu.hl s.cpu.a with
        cpu := { s.cpu with h := hiByte hl', l := loByte hl' } }) ∧
    (∀ nn, i.form = .ldMemSp nn → s.accessSafe nn → s.storeSafe nn → s.accessSafe (nn + 1) →
      exec i s = .next ((((s.later 1).stored nn (loByte s.cpu.sp)).later 1).stored (nn + 1) (hiByte s.cpu.sp)))

/-! ### 16-bit loads of registers, and the stack -/

/-- 16-bit loads of registers (R180, R182, R183); the flags of `LD HL,SP+e` are those of the unsigned low-byte addition. -/
def Obligations.PairLoads : Prop :=
  ∀ (i : Instr) (s : State),
    (∀ nn,
      (i.form = .ldPairImm .bc nn → exec i s = .next { s with cpu := { s.cpu with b := hiByte nn, c := loByte nn } }) ∧
      (i.form = .ldPairImm .de nn → exec i s = .next { s with cpu := { s.cpu with d := hiByte nn, e := loByte nn } }) ∧
      (i.form = .ldPairImm .hl nn → exec i s = .next { s with cpu := { s.cpu with h := hiByte nn, l := loByte nn } }) ∧
      (i.form = .ldPairImm .sp nn → exec i s = .next { s with cpu := { s.cpu with sp := nn } })) ∧
    (s.chargeSafe →
      (i.form = .ldSpHl → exec i s = .next { s.later 1 with cpu := { s.cpu with sp := s.cpu.h ++ s.cpu.l } }) ∧
      (∀ e, i.form = .ldHlSp e →
        let r := s.cpu.sp + e.signExtend 16
        exec i s = .next { s.later 1 with
          cpu := ({ s.cpu with h := hiByte r, l := loByte r } : Cpu).setFlags
            { z := false, n := false
              h := decide (s.cpu.sp.toNat % 16 + e.toNat % 16 > 15)
              c := decide (s.cpu.sp.toNat % 256 + e.toNat > 255) } }))

/-- PUSH: one internal cycle, then SP - 1 gets the high byte and SP - 2 the low byte (R184, R186). -/
def Obligations.PushResult : Prop :=
  ∀ (i : Instr) (s : State), s.pushSafe →
    (i.form = .push .bc → exec i s = .next (s.pushed 1 (s.cpu.b ++ s.cpu.c))) ∧
    (i.form = .push .de → exec i s = .next (s.pushed 1 (s.cpu.d ++ s.cpu.e))) ∧
    (i.form = .push .hl → exec i s = .next (s.pushed 1 (s.cpu.h ++ s.cpu.l))) ∧
    (i.form = .push .af → exec i s = .next (s.pushed 1 (s.cpu.a ++ (s.cpu.f &&& 0xF0))))

/-- POP: the low byte from SP, the high byte from SP + 1; POP AF forces F[3:0] to zero (R185, R27). -/
def Obligations.PopResult : Prop :=
  ∀ (i : Instr) (s : State), s.popSafe →
    let hi := hiByte s.poppedWord
    let lo := loByte s.poppedWord
    let c := s.popped.cpu
    c = { s.cpu with sp := s.cpu.sp + 2 } ∧
    (i.form = .pop .bc → exec i s = .next { s.popped with cpu := { c with b := hi, c := lo } }) ∧
    (i.form = .pop .de → exec i s = .next { s.popped with cpu := { c with d := hi, e := lo } }) ∧
    (i.form = .pop .hl → exec i s = .next { s.popped with cpu := { c with h := hi, l := lo } }) ∧
    (i.form = .pop .af → exec i s = .next { s.popped with cpu := { c with a := hi, f := lo &&& 0xF0 } })

/-! ### Arithmetic -/

/-- Where the flags stand in F, and that writing them leaves F[3:0] zero (R26, R27). -/
def Obligations.FlagByte : Prop :=
  ∀ (c : Cpu) (x : Flags),
    (c.setFlags x).f.getLsbD 7 = x.z ∧ (c.setFlags x).f.getLsbD 6 = x.n ∧ (c.setFlags x).f.getLsbD 5 = x.h ∧
    (c.setFlags x).f.getLsbD 4 = x.c ∧ (c.setFlags x).f &&& 0x0F = 0 ∧
    c.setFlags x = { c with f := (c.setFlags x).f } ∧
    c.flags = { z := c.f.getLsbD 7, n := c.f.getLsbD 6, h := c.f.getLsbD 5, c := c.f.getLsbD 4 }

/-- ADD and ADC: A becomes the sum modulo 256, with the carry flag in for ADC (R191 to R197). -/
def Obligations.AddAdcResult : Prop :=
  ∀ (i : Instr) (x : Source) (withCarry : Bool) (s : State),
    i.form = .alu (if withCarry then .adc else .add) x → x.safe s →
    let a := s.cpu.a.toNat
    let b := (x.value s).toNat
    let cin := (withCarry && s.cpu.flags.c).toNat
    exec i s = .next { x.read s with
      cpu := ({ s.cpu with a := BitVec.ofNat 8 (a + b + cin) } : Cpu).setFlags
        { z := decide ((a + b + cin) % 256 = 0), n := false
          h := decide (a % 16 + b % 16 + cin > 15), c := decide (a + b + cin > 255) } }

/-- SUB, SBC and CP: the difference modulo 256 with its borrows, with the carry flag in for SBC; CP keeps A
(R191, R198 to R203, R213 to R215). -/
def Obligations.SubSbcCpResult : Prop :=
  ∀ (i : Instr) (op : AluOp) (x : Source) (s : State), op = .sub ∨ op = .sbc ∨ op = .cp →
    i.form = .alu op x → x.safe s →
    let a := s.cpu.a.toNat
    let b := (x.value s).toNat
    let cin := (decide (op = .sbc) && s.cpu.flags.c).toNat
    exec i s = .next { x.read s with
      cpu := ({ s.cpu with
          a := if op = .cp then s.cpu.a else BitVec.ofNat 8 (a + 512 - b - cin) } : Cpu).setFlags
        { z := decide ((a + 512 - b - cin) % 256 = 0), n := true
          h := decide (a % 16 < b % 16 + cin), c := decide (a < b + cin) } }

/-- AND, XOR and OR (R190, R204 to R212). -/
def Obligations.LogicResult : Prop :=
  ∀ (i : Instr) (x : Source) (s : State), x.safe s →
    (i.form = .alu .and x →
      exec i s = .next { x.read s with
        cpu := ({ s.cpu with a := s.cpu.a &&& x.value s } : Cpu).setFlags
          { z := decide (s.cpu.a &&& x.value s = 0), n := false, h := true, c := false } }) ∧
    (i.form = .alu .xor x →
      exec i s = .next { x.read s with
        cpu := ({ s.cpu with a := s.cpu.a ^^^ x.value s } : Cpu).setFlags
          { z := decide (s.cpu.a ^^^ x.value s = 0), n := false, h := false, c := false } }) ∧
    (i.form = .alu .or x →
      exec i s = .next { x.read s with
        cpu := ({ s.cpu with a := s.cpu.a ||| x.value s } : Cpu).setFlags
          { z := decide (s.cpu.a ||| x.value s = 0), n := false, h := false, c := false } })

/-- INC and DEC of a register or of memory at HL; Cf is kept (R216 to R219). -/
def Obligations.IncDecResult : Prop :=
  ∀ (i : Instr) (x : Place) (s : State), x.safe s →
    let v := x.value s
    (i.form = .inc8 x →
      exec i s = .next (x.written s (s.cpu.setFlags
        { z := decide (v = 0xFF), n := false, h := decide (v.toNat % 16 = 15), c := s.cpu.flags.c }) (v + 1))) ∧
    (i.form = .dec8 x →
      exec i s = .next (x.written s (s.cpu.setFlags
        { z := decide (v = 0x01), n := true, h := decide (v.toNat % 16 = 0), c := s.cpu.flags.c }) (v - 1)))

/-- DAA, CPL, SCF and CCF (R220 to R223). -/
def Obligations.AdjustResult : Prop :=
  ∀ (i : Instr) (s : State),
    let a := s.cpu.a.toNat
    let f := s.cpu.flags
    (i.form = .daa →
      let high := f.c || (!f.n && decide (a > 0x99))
      let low := f.h || (!f.n && decide (a % 16 > 9))
      let d := (if high then 0x60 else 0) + (if low then 0x06 else 0)
      let r := BitVec.ofNat 8 (if f.n then a + 256 - d else a + d)
      exec i s = .next { s with
        cpu := ({ s.cpu with a := r } : Cpu).setFlags { z := decide (r = 0), n := f.n, h := false, c := high } }) ∧
    (i.form = .cpl →
      exec i s = .next { s with
        cpu := ({ s.cpu with a := ~~~s.cpu.a } : Cpu).setFlags { z := f.z, n := true, h := true, c := f.c } }) ∧
    (i.form = .scf →
      exec i s = .next { s with cpu := s.cpu.setFlags { z := f.z, n := false, h := false, c := true } }) ∧
    (i.form = .ccf →
      exec i s = .next { s with cpu := s.cpu.setFlags { z := f.z, n := false, h := false, c := !f.c } })

/-- 16-bit arithmetic, after its internal cycles (R230 to R233). -/
def Obligations.PairArithmetic : Prop :=
  ∀ (i : Instr) (s : State), s.chargeSafe →
    (∀ p, i.form = .addHl p →
      let hl := s.cpu.hl.toNat
      let v := (s.cpu.pair p).toNat
      exec i s = .next { s.later 1 with
        cpu := (s.cpu.setHl (BitVec.ofNat 16 (hl + v))).setFlags
          { z := s.cpu.flags.z, n := false
            h := decide (hl % 4096 + v % 4096 > 4095), c := decide (hl + v > 65535) } }) ∧
    (∀ p, i.form = .incPair p → exec i s = .next { s.later 1 with cpu := s.cpu.setPair p (s.cpu.pair p + 1) }) ∧
    (∀ p, i.form = .decPair p → exec i s = .next { s.later 1 with cpu := s.cpu.setPair p (s.cpu.pair p - 1) }) ∧
    (∀ e, i.form = .addSp e →
      exec i s = .next { s.later 2 with
        cpu := ({ s.cpu with sp := s.cpu.sp + e.signExtend 16 } : Cpu).setFlags
          { z := false, n := false
            h := decide (s.cpu.sp.toNat % 16 + e.toNat % 16 > 15)
            c := decide (s.cpu.sp.toNat % 256 + e.toNat > 255) } })

/-! ### Rotates, shifts and bits -/

/-- The rotates and shifts: the result and the carry-out of each function (R266), on A with Zf cleared (R240 to R243), and
on a register or memory with Zf from the result (R244 to R259). -/
def Obligations.RotateResult : Prop :=
  ∀ (i : Instr) (s : State),
    let f : RotOp → Byte → Byte × Bool := fun op v =>
      let cf := BitVec.ofBool s.cpu.flags.c
      match op with
      | .rlc => (v.rotateLeft 1, v.getLsbD 7)
      | .rrc => (v.rotateRight 1, v.getLsbD 0)
      | .rl => (v <<< 1 ||| cf.setWidth 8, v.getLsbD 7)
      | .rr => (v >>> 1 ||| cf.setWidth 8 <<< 7, v.getLsbD 0)
      | .sla => (v <<< 1, v.getLsbD 7)
      | .sra => (v.sshiftRight 1, v.getLsbD 0)
      | .swap => (v.rotateLeft 4, false)
      | .srl => (v >>> 1, v.getLsbD 0)
    (∀ a op, i.form = .accRot a →
      op = (match a with
        | .rlca => RotOp.rlc
        | .rrca => .rrc
        | .rla => .rl
        | .rra => .rr) →
      exec i s = .next { s with
        cpu := ({ s.cpu with a := (f op s.cpu.a).1 } : Cpu).setFlags
          { z := false, n := false, h := false, c := (f op s.cpu.a).2 } }) ∧
    (∀ op x, i.form = .rot op x → x.safe s →
      let r := f op (x.value s)
      exec i s = .next (x.written s
        (s.cpu.setFlags { z := decide (r.1 = 0), n := false, h := false, c := r.2 }) r.1))

/-- BIT, RES and SET (R260 to R265). BIT writes no operand; RES and SET write no flag. -/
def Obligations.BitResult : Prop :=
  ∀ (i : Instr) (b : Fin 8) (x : Place) (s : State), x.safe s →
    (i.form = .bit b x →
      exec i s = .next { x.read s with
        cpu := s.cpu.setFlags { z := !(x.value s).getLsbD b.val, n := false, h := true, c := s.cpu.flags.c } }) ∧
    (∀ r : Byte, (∀ k < 8, r.getLsbD k = if k = b.val then false else (x.value s).getLsbD k) →
      i.form = .res b x → exec i s = .next (x.written s s.cpu r)) ∧
    (∀ r : Byte, (∀ k < 8, r.getLsbD k = if k = b.val then true else (x.value s).getLsbD k) →
      i.form = .set b x → exec i s = .next (x.written s s.cpu r))

/-! ### Control transfer -/

/-- Jumps: an internal cycle when taken, and none, with nothing changed, when the condition is false (R270 to R275). -/
def Obligations.JumpResult : Prop :=
  ∀ (i : Instr) (s : State),
    let c := s.cpu
    let z := c.f.getLsbD 7
    let cy := c.f.getLsbD 4
    let cond : Cond → Bool := fun cc =>
      match cc with
      | .nz => !z
      | .z => z
      | .nc => !cy
      | .c => cy
    (i.form = .jpHl → exec i s = .next { s with cpu := { c with pc := c.h ++ c.l } }) ∧
    (∀ nn, i.form = .jp nn ∨ (∃ cc, i.form = .jpCond cc nn ∧ cond cc = true) → s.chargeSafe →
      exec i s = .next { s.later 1 with cpu := { c with pc := nn } }) ∧
    (∀ e, i.form = .jr e ∨ (∃ cc, i.form = .jrCond cc e ∧ cond cc = true) → s.chargeSafe →
      exec i s = .next { s.later 1 with cpu := { c with pc := c.pc + e.signExtend 16 } }) ∧
    (∀ cc, cond cc = false →
      (∃ nn, i.form = .jpCond cc nn ∨ i.form = .callCond cc nn) ∨ (∃ e, i.form = .jrCond cc e) →
      exec i s = .next s)

/-- Calls and RST push the address after the instruction, past an internal cycle, and go to their target (R276, R277, R283,
R129). A call whose condition is false changes nothing (`JumpResult`). -/
def Obligations.CallResult : Prop :=
  ∀ (i : Instr) (target : Addr) (s : State), s.pushSafe →
    (i.form = .call target ∨ (∃ cc, i.form = .callCond cc target ∧ s.cpu.cond cc = true) ∨
      (∃ y : Fin 8, i.form = .rst y ∧ target.toNat = 8 * y.val)) →
    exec i s = .next { s.pushed 1 s.cpu.pc with cpu := { s.cpu with sp := s.cpu.sp - 2, pc := target } }

/-- Returns pop `pc` and spend one internal cycle; RETI also sets IME at once; RET cc spends one more cycle first, and only
that one when its condition is false (R278 to R280, R326). -/
def Obligations.ReturnResult : Prop :=
  ∀ (i : Instr) (s : State), s.popSafe →
    (i.form = .ret →
      exec i s = .next { s.popped.later 1 with cpu := { s.popped.cpu with pc := s.poppedWord } }) ∧
    (i.form = .reti →
      exec i s = .next { s.popped.later 1 with cpu := { s.popped.cpu with pc := s.poppedWord, ime := true } }) ∧
    (∀ cc, i.form = .retCond cc → s.cpu.cond cc = true →
      exec i s = .next { (s.later 1).popped.later 1 with
        cpu := { s.popped.cpu with pc := (s.later 1).poppedWord } }) ∧
    (∀ cc, i.form = .retCond cc → s.cpu.cond cc = false → exec i s = .next (s.later 1))

/-! ### Miscellaneous and system -/

/-- NOP, HALT, DI, EI and the prefix change nothing but the mode flag they name (R290, R291, R293, R294, R296). -/
def Obligations.ModeFlagInstructions : Prop :=
  ∀ (s : State),
    exec .nop s = .next s ∧
    exec .halt s = .next { s with cpu := { s.cpu with halted := true } } ∧
    exec .di s = .next { s with cpu := { s.cpu with ime := false, imeSched := false } } ∧
    exec .ei s = .next { s with cpu := { s.cpu with imeSched := true } } ∧
    exec .prefixCb s = .next { s with cpu := { s.cpu with prefixedPending := true } }

/-- STOP and the eleven unused opcodes end the run, keeping the state, where the parameters have the decided values; under
the alternatives D14 and U1 name they are no-ops, STOP of two bytes (R292, R297, R330, R331). -/
def Obligations.StopAndUnusedOpcodes : Prop :=
  ∀ (i : Instr) (op : Byte) (s : State),
    let t : State := { s with cpu := { s.cpu with pc := s.cpu.pc + 1 } }
    (s.params.stopOutcome = .terminal → exec .stop s = .fault (.stopped (s.cpu.pc + 1) t)) ∧
    (s.params.stopOutcome = .noOp → exec .stop s = .next t) ∧
    (i.form = .illegal op →
      op ∈ [0xD3, 0xDB, 0xDD, 0xE3, 0xE4, 0xEB, 0xEC, 0xED, 0xF4, 0xFC, 0xFD] ∧
      (s.params.illegalOutcome = .fault → exec i s = .fault (.illegalOpcode op s.cpu.opAddr s)) ∧
      (s.params.illegalOutcome = .noOp → exec i s = .next s))

/-! ### Frames -/

/-- An instruction that stores nothing changes, outside the CPU, only what ticks change (R70, R89). -/
def Obligations.FrameWithoutStores : Prop :=
  ∀ (i : Instr) (s t : State), i.form.stores s.cpu = [] → s.dma.ok = true → exec i s = .next t →
    ∃ n, Ticked n s { t with cpu := s.cpu }

/-- What an instruction does not store to it leaves alone: every byte of the storage arrays outside the stored addresses
(of OAM, where no transfer runs and none is started), the external RAM, IE, and the registers of the I/O page, each where no
stored address is in its place; and always the ROM, the parameters and the buttons (R82, R95). -/
def Obligations.FrameOfStores : Prop :=
  ∀ (i : Instr) (s t : State), s.dma.ok = true → exec i s = .next t →
    let stores := i.form.stores s.cpu
    (∀ a : Addr, isStorage a = true → a ∉ stores →
      (region a = .oam → s.dma.active = false ∧ 0xFF46 ∉ stores) → t.mem.read a.toNat = s.mem.read a.toNat) ∧
    ((∀ b ∈ stores, region b ≠ .extRam) → t.cart.ram = s.cart.ram) ∧
    ((∀ b ∈ stores, region b ≠ .romWindow) → t.cart.bank1 = s.cart.bank1 ∧ t.cart.bank2 = s.cart.bank2 ∧
      t.cart.ramEn = s.cart.ramEn ∧ t.cart.bmode = s.cart.bmode) ∧
    (0xFFFF ∉ stores → t.ie = s.ie) ∧
    ((∀ b ∈ stores, region b ≠ .io) →
      t.timer.tma = s.timer.tma ∧ t.timer.tac = s.timer.tac ∧ t.display.lcdc = s.display.lcdc ∧
      t.display.statEn = s.display.statEn ∧ t.display.scy = s.display.scy ∧ t.display.scx = s.display.scx ∧
      t.display.lyc = s.display.lyc ∧ t.display.bgp = s.display.bgp ∧ t.display.obp0 = s.display.obp0 ∧
      t.display.obp1 = s.display.obp1 ∧ t.display.wy = s.display.wy ∧ t.display.wx = s.display.wx ∧
      t.dma.reg = s.dma.reg ∧ t.joypad.sel = s.joypad.sel ∧ s.iflag &&& t.iflag = s.iflag) ∧
    t.cart.rom = s.cart.rom ∧ t.params = s.params ∧ t.joypad.buttons = s.joypad.buttons ∧
    t.hostInput = s.hostInput

/-! ### The timer -/

/-- One tick of the timer outside the pending interval (R341 to R345): the divider counts, and the counter is incremented when
the AND of the enable and the selected divider bit falls; from 0xFF it wraps to 0 and the overflow becomes pending. -/
def Obligations.TimerTick : Prop :=
  ∀ (t : Timer), t.tstate ≠ .pending →
    let sel := match t.tac.toNat % 4 with
      | 0 => 9
      | 1 => 3
      | 2 => 5
      | _ => 7
    let now := t.tac.getLsbD 2 && (t.div + 1).getLsbD sel
    t.tick = (if t.prevAnd && !now then
        if t.tima = 0xFF then
          { t with div := t.div + 1, prevAnd := now, tima := 0x00, tstate := .pending, tcycles := 0 }
        else { t with div := t.div + 1, prevAnd := now, tima := t.tima + 1 }
      else { t with div := t.div + 1, prevAnd := now }, false)

/-- After an overflow of the counter, made by a tick or by a write to TAC, the counter reads 0 for three more ticks; the
fourth tick reloads it from TMA as it then stands and requests the interrupt, and the fifth returns to normal. An overflow
leaves the AND result remembered as false and the present AND false, since it is made on a falling edge; the reload follows
from any state so, and from any at a multiple of 16 of the divider (R345 to R347, R352, R354 d). -/
def Obligations.TimerReload : Prop :=
  ∀ (t : Timer),
    let watched : Timer → Bool := fun x => x.tac.getLsbD 2 && x.div.getLsbD (match x.tac.toNat % 4 with
      | 0 => 9
      | 1 => 3
      | 2 => 5
      | _ => 7)
    (∀ u : Timer, u.tima = 0xFF → u.prevAnd = true →
      (u.tstate ≠ .pending ∧ t = u.tick.1) ∨ (∃ v, t = u.writeTac v) → watched t = false →
      t.tima = 0x00 ∧ t.tstate = .pending ∧ t.tcycles = 0 ∧ t.prevAnd = false) ∧
    (t.tstate = .pending → t.tcycles = 0 → t.prevAnd = false → watched t = false ∨ t.div.toNat % 16 = 0 →
      let t1 := t.tick
      let t2 := t1.1.tick
      let t3 := t2.1.tick
      let t4 := t3.1.tick
      let t5 := t4.1.tick
      t1.1.tima = t.tima ∧ t2.1.tima = t.tima ∧ t3.1.tima = t.tima ∧ t4.1.tima = t.tma ∧ t5.1.tima = t.tma ∧
      [t1.2, t2.2, t3.2, t4.2, t5.2] = [false, false, false, true, false] ∧
      t4.1.tstate = .pending ∧ t4.1.tcycles = 4 ∧ t5.1.tstate = .normal ∧ t5.1.tcycles = 0 ∧ t5.1.div = t.div + 5 ∧
      ∀ v, ({ t3.1 with tma := v } : Timer).tick.1.tima = v ∧ ({ t3.1 with tma := v } : Timer).tick.2 = true)

/-- Writes to the timer's registers (R349 to R352). -/
def Obligations.TimerWrites : Prop :=
  ∀ (s : State) (v : Byte),
    let t := s.timer
    busWrite 0xFF04 v s = .ok () { s with timer := { t with div := 0 } } ∧
    (s.params.divLoMapped = true → busWrite 0xFF03 v s = .ok () { s with timer := { t with div := 0 } }) ∧
    busWrite 0xFF05 v s = .ok () { s with
      timer := if t.tstate = .pending ∧ t.tcycles < 4 then { t with tima := v, tstate := .normal, tcycles := 0 }
        else { t with tima := v } } ∧
    busWrite 0xFF06 v s = .ok () { s with timer := { t with tma := v } } ∧
    (let sel := match v.toNat % 4 with
      | 0 => 9
      | 1 => 3
      | 2 => 5
      | _ => 7
    let now := v.getLsbD 2 && t.div.getLsbD sel
    busWrite 0xFF07 v s = .ok () { s with
      timer := if t.prevAnd && !now then
          if t.tima = 0xFF then
            { t with tac := v.setWidth 3, prevAnd := now, tima := 0x00, tstate := .pending, tcycles := 0 }
          else { t with tac := v.setWidth 3, prevAnd := now, tima := t.tima + 1 }
        else { t with tac := v.setWidth 3, prevAnd := now } })

/-! ### OAM DMA -/

/-- The trigger and one tick of the DMA machine (R461 to R463). -/
def Obligations.DmaMachine : Prop :=
  ∀ (s : State) (v : Byte),
    busWrite 0xFF46 v s = .ok () { s with
      dma := { src := v ++ 0x00#8, dst := 0xFE00, wait := 4, active := true, reg := v } } ∧
    (s.dma.active = false → dmaTick s = .ok () s) ∧
    (s.dma.active = true → 0 < s.dma.wait →
      dmaTick s = .ok () { s with dma := { s.dma with wait := s.dma.wait - 1 } }) ∧
    (s.dma.active = true → s.dma.wait = 0 → 0xFE9F < s.dma.dst.toNat →
      dmaTick s = .ok () { s with dma := { s.dma with active := false } }) ∧
    (s.dma.active = true → s.dma.wait = 0 → s.dma.dst.toNat ≤ 0xFE9F → s.dma.ok = true → s.accessSafe s.dma.src →
      dmaTick s = .ok () { (s.loaded s.dma.src).stored s.dma.dst (s.peek s.dma.src) with
        dma := { s.dma with src := s.dma.src + 1, dst := s.dma.dst + 1, wait := 3 } })

/-- A whole transfer from any page below 0xFE: 641 ticks after the trigger OAM holds the 160 bytes of the page, and the machine
is inactive after 645, not before (R464). -/
def Obligations.DmaCopiesPage : Prop :=
  ∀ (s : State) (v : Byte), v.toNat < 0xFE → s.dma = Dma.trigger v →
    (s.cart.ramMissing = true → region (v ++ 0x00#8) ≠ .extRam) →
    ∃ t u w, ticks 641 s = .ok () t ∧ ticks 3 t = .ok () u ∧ ticks 1 u = .ok () w ∧
      (∀ k < 160, t.peek (0xFE00 + BitVec.ofNat 16 k) = s.peek ((v ++ 0x00#8) + BitVec.ofNat 16 k)) ∧
      u.dma.active = true ∧ w.dma.active = false ∧ w.mem = t.mem

/-! ### The display controller -/

/-- While LCDC bit 7 is clear a tick forces the controller to its one disabled state, requests nothing and emits nothing
(R375, R421). -/
def Obligations.DisplayOff : Prop :=
  ∀ (m : Memory) (d : Display), d.lcdc.getLsbD 7 = false →
    d.tick m = ({ d with
      ly := 0, mode := .hblank, dot := 0, lx := 0, bgFifo := { d.bgFifo with head := 0, size := 0 }
      spFifo := { d.spFifo with head := 0, size := 0 }, fState := .tileNo, fSub := 0
      fLayer := .bg, firstFetch := true, asked := List.replicate 10 false, fX := 0, discard := 0, spr := []
      winEngaged := false, wyMatched := false, windowLine := 0, statLine := false }, none, 0)

/-- The frame of an enabled controller: the place in the frame, 456 ticks a scanline and 154 scanlines, advances by one every
tick and wraps after 70224; the vertical-blank request is made on the tick that enters scanline 144 and on no other, and the
mode is 1 exactly in scanlines 144 to 153. At the end of a visible scanline its per-scanline state is reset and the window
line counts if the window was engaged; at the end of the frame the window's match and line are cleared; the idle ticks of
both blanks change neither (R370, R420, R421, R425, R426). The invariant admits a controller still drawing at dot 455, which no
run reaches (R414); that such a line ends at the next tick is the model's choice, within R414's licence (log 6). -/
def Obligations.FrameStructure : Prop :=
  ∀ (m : Memory) (d : Display), d.Inv → d.lcdc.getLsbD 7 = true →
    let place : Display → Nat := fun x => 456 * x.ly.toNat + x.dot
    let r := d.tick m
    place r.1 = (place d + 1) % 70224 ∧
    (r.2.2.getLsbD 0 = true ↔ place r.1 = 456 * 144) ∧
    (r.1.mode = .vblank ↔ 144 ≤ r.1.ly.toNat) ∧
    (d.mode = .hblank → d.dot = 455 →
      r.1.windowLine = (if d.winEngaged then d.windowLine + 1 else d.windowLine) ∧ r.1.wyMatched = d.wyMatched ∧
      r.1.lx = 0 ∧ r.1.bgFifo.size = 0 ∧ r.1.bgFifo.head = 0 ∧ r.1.spFifo.size = 0 ∧ r.1.spFifo.head = 0 ∧
      r.1.fState = .tileNo ∧ r.1.fSub = 0 ∧ r.1.fLayer = .bg ∧ r.1.firstFetch = true ∧
      r.1.asked = List.replicate 10 false ∧ r.1.fX = 0 ∧ r.1.discard = 0 ∧ r.1.spr = [] ∧
      r.1.winEngaged = false ∧ r.1.mode = (if d.ly = 143 then .vblank else .scan)) ∧
    (d.mode = .vblank → d.dot = 455 → d.ly = 153 →
      r.1.windowLine = 0 ∧ r.1.wyMatched = false ∧ r.1.ly = 0 ∧ r.1.mode = .scan) ∧
    (d.mode = .hblank ∨ d.mode = .vblank → (d.dot < 455 ∨ d.mode = .vblank ∧ d.ly ≠ 153) →
      r.1.windowLine = d.windowLine ∧ r.1.wyMatched = d.wyMatched ∧ r.1.mode = d.mode)

/-- The whole machine keeps the frame over any number of ticks, whatever else happens in them, while the controller is enabled
(R426). For a controller drawing at dot 455, which the invariant admits and no run reaches (R414), it rests on the model's
choice within R414's licence (log 6). -/
def Obligations.FrameOverTicks : Prop :=
  ∀ (n : Nat) (s t : State), s.display.Inv → s.display.lcdc.getLsbD 7 = true → ticks n s = .ok () t →
    t.display.Inv ∧
    456 * t.display.ly.toNat + t.display.dot = (456 * s.display.ly.toNat + s.display.dot + n) % 70224

/-- The display-status interrupt: requested on the tick on which the composite condition becomes true, and not while it stays
true (R450). -/
def Obligations.StatEdge : Prop :=
  ∀ (m : Memory) (d : Display), d.lcdc.getLsbD 7 = true →
    let r := d.tick m
    let x := r.1
    let composite := (d.statEn.getLsbD 3 && decide (x.ly = d.lyc)) ||
      (d.statEn.getLsbD 2 && decide (x.mode = .scan ∨ x.ly = 144)) ||
      (d.statEn.getLsbD 1 && decide (x.mode = .vblank)) || (d.statEn.getLsbD 0 && decide (x.mode = .hblank))
    x.statLine = composite ∧ r.2.2.getLsbD 1 = (composite && !d.statLine) ∧
    r.2.2.getLsbD 2 = false ∧ r.2.2.getLsbD 3 = false ∧ r.2.2.getLsbD 4 = false

/-- The attribute scan: on the second tick of each pair entry `dot / 2` is buffered if fewer than ten are, its X is not zero
and the scanline lies in its extent; the window's vertical match is taken; after dot 79 drawing begins (R380, R381, R383).
That an entry with X = 0 is not buffered is the model's choice of R381 over U20 (log 20). -/
def Obligations.AttributeScan : Prop :=
  ∀ (m : Memory) (d : Display), d.mode = .scan →
    let e := 0xFE00 + 4 * (d.dot / 2)
    let y := (m.read e).toNat
    let h := if d.lcdc.getLsbD 2 then 16 else 8
    let hit := d.dot % 2 = 1 ∧ d.spr.length < 10 ∧ m.read (e + 1) ≠ 0 ∧ y ≤ d.ly.toNat + 16 ∧ d.ly.toNat + 16 < y + h
    let r := d.mode2Tick m
    r.spr = (if hit then
        d.spr ++ [{ y := m.read e, x := m.read (e + 1), tile := m.read (e + 2), attr := m.read (e + 3) }]
      else d.spr) ∧
    r.wyMatched = (d.wyMatched || decide (d.ly = d.wy)) ∧ r.dot = d.dot + 1 ∧
    r.mode = (if d.dot = 79 then .drawing else .scan)

/-- The fetcher. It reads only video RAM, in every state: the rows lie in 0x8000 to 0x97FF, the tile numbers in one of the two
tile maps, and a step is the same for memories that agree on video RAM. Each state acts on its second tick and leads to the
next. A push of a background or window row waits for an empty queue and puts the eight decoded pixels into its slots; the
first of a scanline loads the discard. A push of a sprite fills the queue to eight transparent pixels and replaces a
transparent slot by an opaque pixel of the sprite, past the columns left of the screen (R400 to R408, R411). -/
def Obligations.FetchesInVram : Prop :=
  ∀ (d : Display),
    0x8000 ≤ d.dataAddr ∧ d.dataAddr + 1 ≤ 0x97FF ∧
    (∀ m m' : Memory, (∀ a, 0x9800 ≤ a → a < 0xA000 → m.read a = m'.read a) → d.fetchTileNo m = d.fetchTileNo m') ∧
    (∀ m m' : Memory, (∀ a, 0x8000 ≤ a → a < 0xA000 → m.read a = m'.read a) → d.fetcherStep m = d.fetcherStep m') ∧
    ∀ m : Memory,
      let px : Nat → BitVec 2 := fun k => BitVec.ofBool (d.fHi.getLsbD (7 - k)) ++ BitVec.ofBool (d.fLo.getLsbD (7 - k))
      (d.fSub = 0 → d.fetcherStep m = { d with fSub := 1 }) ∧
      (d.fSub = 1 ∨ d.fSub = 2 →
        (d.fState = .tileNo → d.fetcherStep m = { d with fTile := d.fetchTileNo m, fState := .dataLo, fSub := 0 }) ∧
        (d.fState = .dataLo → d.fetcherStep m = { d with fLo := m.read d.dataAddr, fState := .dataHi, fSub := 0 }) ∧
        (d.fState = .dataHi → d.fetcherStep m = { d with fHi := m.read (d.dataAddr + 1), fState := .push, fSub := 0 }) ∧
        (d.fState = .push → d.fLayer = .bg ∨ d.fLayer = .win →
          (d.bgFifo.size ≠ 0 → d.fetcherStep m = { d with fSub := 2 }) ∧
          (d.bgFifo.size = 0 → ∃ q : Fifo (BitVec 2),
            d.fetcherStep m = { d with
              bgFifo := q, fX := d.fX + 1, firstFetch := false, fState := .tileNo, fSub := 0
              discard := if d.firstFetch = true ∧ d.fLayer = .bg then d.scx.toNat % 8 else d.discard } ∧
            q.size = 8 ∧ q.head = d.bgFifo.head ∧ ∀ k < 8, q.slot k = px k)) ∧
        (∀ i, d.fState = .push → d.fLayer = .spr i → d.spFifo.size ≤ 8 →
          let p := d.sprite i
          let skip := d.lx + 8 - p.x.toNat
          let colour : Nat → BitVec 2 := fun k => if p.attr.getLsbD 5 then px (7 - k) else px k
          ∃ q : Fifo SpritePixel,
            d.fetcherStep m = { d with spFifo := q, fLayer := .bg, fState := .tileNo, fSub := 0 } ∧
            q.size = 8 ∧ q.head = d.spFifo.head ∧ ∀ j < 8, q.slot j =
              (let old : SpritePixel :=
                if j < d.spFifo.size then d.spFifo.slot j else { color := 0, pal := false, bgprio := false }
              if skip + j < 8 ∧ old.color = 0 ∧ colour (skip + j) ≠ 0 then
                { color := colour (skip + j), pal := p.attr.getLsbD 4, bgprio := p.attr.getLsbD 7 }
              else old)))

/-- A drawing tick and the mixer. The arbitration of a tick, in order: a sprite fetch in progress holds the mixer; else the
first buffered sprite reached and not yet asked for redirects the fetcher to it; else the window, once reached, redirects it,
emptying the queue and restarting the column the first time on a scanline; else the mixer runs. The fetcher steps in every
case and before the mixer; then the dot counts, and the 160th pixel ends drawing (R390 to R393; dot 455, which no drawing tick
reaches, R414 leaves to the model, log 6). The mixer: an empty background queue stops it; leading pixels are discarded without
touching the sprite queue; else one pixel of each queue is popped, the sprite pixel wins unless it is transparent, stands
behind a background that is not, or sprites are off, and the winner is emitted through its palette (R410 to R412, R46). -/
def Obligations.PixelMixer : Prop :=
  ∀ (d : Display),
    let popped : {α : Type} → Fifo α → Fifo α := fun q =>
      if q.size = 0 then q else { q with head := q.head + 1, size := q.size - 1 }
    let reached : Nat → Prop := fun i =>
      ∃ p, d.spr[i]? = some p ∧ d.asked[i]? ≠ some true ∧ p.x.toNat ≤ d.lx + 8
    let window : Prop := d.lcdc.getLsbD 5 = true ∧ d.wyMatched = true ∧ d.wx.toNat ≤ d.lx + 7 ∧ d.fLayer ≠ .win
    let ends : Display × Option Emit → Display × Option Emit × BitVec 5 := fun x =>
      ({ x.1 with dot := x.1.dot + 1, mode := if x.1.lx = 160 then .hblank else x.1.mode }, x.2, 0)
    (∀ m : Memory, d.dot ≠ 455 →
      (∀ i, d.fLayer = .spr i → d.mode3Tick m = ends (d.fetcherStep m, none)) ∧
      ((∀ i, d.fLayer ≠ .spr i) →
        (∀ i, reached i → (∀ j < i, ¬ reached j) →
          d.mode3Tick m = ends (({ d with
            asked := d.asked.set i true, fLayer := .spr i, fState := .tileNo, fSub := 0 } : Display).fetcherStep m, none)) ∧
        ((∀ i, ¬ reached i) →
          (window → d.winEngaged = true →
            d.mode3Tick m = ends (({ d with fLayer := .win, fState := .tileNo, fSub := 0 } : Display).fetcherStep m, none)) ∧
          (window → d.winEngaged = false →
            d.mode3Tick m = ends (({ d with
              fLayer := .win, fState := .tileNo, fSub := 0, winEngaged := true
              bgFifo := { d.bgFifo with head := 0, size := 0 }, fX := 0, discard := 0 } : Display).fetcherStep m, none)) ∧
          (¬ window → d.mode3Tick m = ends (d.fetcherStep m).mixerStep)))) ∧
    (d.bgFifo.size = 0 → d.mixerStep = (d, none)) ∧
    (d.bgFifo.size ≠ 0 → 0 < d.discard →
      d.mixerStep = ({ d with bgFifo := popped d.bgFifo, discard := d.discard - 1 }, none)) ∧
    (d.bgFifo.size ≠ 0 → d.discard = 0 →
      let bgc := if d.lcdc.getLsbD 0 then d.bgFifo.slot 0 else 0
      let shade : Byte → BitVec 2 → BitVec 2 := fun pal i => (pal >>> (2 * i.toNat)).setWidth 2
      let p := d.spFifo.slot 0
      d.mixerStep = ({ d with bgFifo := popped d.bgFifo, spFifo := popped d.spFifo, lx := d.lx + 1 },
        some
          { shade :=
              if d.spFifo.size ≠ 0 ∧ p.color ≠ 0 ∧ ¬ (p.bgprio = true ∧ bgc ≠ 0) ∧ d.lcdc.getLsbD 1 = true then
                shade (if p.pal then d.obp1 else d.obp0) p.color
              else shade d.bgp bgc
            column := d.lx, row := d.ly }))

/-! ### Cartridge and input -/

/-- The banked cartridge's registers and windows, and the cartridge without a mapper (R481, R484 to R489). -/
def Obligations.CartridgeBanks : Prop :=
  ∀ (c : Cart) (a : Addr) (v sentinel : Byte),
    let n := a.toNat
    (c.mapper = .noMapper → n < 0x8000 → c.readRom a = c.rom.read n ∧ c.writeRom a v = c) ∧
    (c.mapper = .noMapper → c.readRam sentinel a = sentinel ∧ c.writeRam a v = c ∧ c.ramMissing = false) ∧
    (c.mapper = .banked →
      (n < 0x4000 → c.readRom a =
        c.rom.read ((if c.bmode then c.bank2.toNat * 32 % c.nbanks else 0) * 16384 + n)) ∧
      (0x4000 ≤ n → n < 0x8000 → c.readRom a =
        c.rom.read ((c.bank2.toNat * 32 + c.bank1.toNat) % c.nbanks * 16384 + (n - 0x4000))) ∧
      (n < 0x2000 → c.writeRom a v = { c with ramEn := decide (v &&& 0x0F = 0x0A) }) ∧
      (0x2000 ≤ n → n < 0x4000 → c.writeRom a v =
        { c with bank1 := if v &&& 0x1F = 0 then 1 else v.setWidth 5 }) ∧
      (0x4000 ≤ n → n < 0x6000 → c.writeRom a v = { c with bank2 := v.setWidth 2 }) ∧
      (0x6000 ≤ n → n < 0x8000 → c.writeRom a v = { c with bmode := v.getLsbD 0 }) ∧
      (c.ramEn = false → c.readRam sentinel a = sentinel ∧ c.writeRam a v = c) ∧
      (c.ramEn = true → c.ramSize ≠ 0 →
        let k := ((if c.bmode then c.bank2.toNat else 0) * 8192 + (n - 0xA000)) % c.ramSize
        c.readRam sentinel a = c.ram.read k ∧ c.writeRam a v = { c with ram := c.ram.write k v } ∧
        (c.writeRam a v).readRam sentinel a = v))

/-- The input register: a line of the low nibble is 0 exactly when a selected group has its button pressed, and a poll requests
the interrupt when a line fell (R470 to R474). -/
def Obligations.InputRegister : Prop :=
  ∀ (s : State),
    let p := s.joypad
    let b := p.buttons
    let dir := p.sel.getLsbD 0
    let aux := p.sel.getLsbD 1
    (p.low.getLsbD 0 = false ↔ (dir = false ∧ b.right = true) ∨ (aux = false ∧ b.a = true)) ∧
    (p.low.getLsbD 1 = false ↔ (dir = false ∧ b.left = true) ∨ (aux = false ∧ b.b = true)) ∧
    (p.low.getLsbD 2 = false ↔ (dir = false ∧ b.up = true) ∨ (aux = false ∧ b.select = true)) ∧
    (p.low.getLsbD 3 = false ↔ (dir = false ∧ b.down = true) ∨ (aux = false ∧ b.start = true)) ∧
    s.poll = { s with
      joypad := { p with prev := p.low }
      iflag := if p.prev &&& ~~~p.low = 0 then s.iflag else s.iflag ||| 0b10000 } ∧
    s.loaded 0xFF00 = s.poll
end

