-- ==== Sys2Proof/Laws/Memory.lean ====
section
/-! SUPPORT. The laws of one byte of memory: a read after a write, and the canonical form kept. -/

namespace Sys2Proof.Machine

namespace Memory

theorem read_erase_same (m : Memory) (a : Nat) : (m.erase a).read a = Config.unwrittenByte := by
  induction m with
  | nil => rfl
  | cons c m ih =>
    obtain ⟨k, x⟩ := c
    by_cases h : k = a <;> simp [erase, read, h, ih]

theorem read_erase_other (m : Memory) {a b : Nat} (h : b ≠ a) : (m.erase a).read b = m.read b := by
  induction m with
  | nil => rfl
  | cons c m ih =>
    obtain ⟨k, x⟩ := c
    by_cases hk : k = a
    · subst hk
      simp [erase, read, ih, Ne.symm h]
    · by_cases hb : k = b
      · subst hb; simp [erase, read, h]
      · simp [erase, read, hk, hb, ih]

theorem read_insert_same (m : Memory) (a : Nat) (v : Byte) (h : m.read a = Config.unwrittenByte)
    (hk : ∀ x ∈ m, x.1 ≠ a) : (m.insert a v).read a = v := by
  induction m with
  | nil => simp [insert, read]
  | cons c m ih =>
    obtain ⟨k, x⟩ := c
    have hka : k ≠ a := hk (k, x) (by simp)
    have hm : read m a = Config.unwrittenByte := by simpa [read, hka] using h
    by_cases hlt : a < k
    · simp [insert, read, hlt]
    · simpa [insert, read, hlt, hka] using ih hm fun y hy => hk y (by simp [hy])

theorem read_insert_other (m : Memory) {a b : Nat} (v : Byte) (h : b ≠ a) :
    (m.insert a v).read b = m.read b := by
  induction m with
  | nil => simp [insert, read, Ne.symm h]
  | cons c m ih =>
    obtain ⟨k, x⟩ := c
    by_cases hlt : a < k
    · simp [insert, read, hlt, Ne.symm h]
    · by_cases hb : k = b
      · subst hb; simp [insert, read, hlt]
      · simp [insert, read, hlt, hb, ih]

theorem mem_erase {m : Memory} {a : Nat} {x : Host.Cell} : x ∈ m.erase a ↔ x ∈ m ∧ x.1 ≠ a := by
  induction m with
  | nil => simp [erase]
  | cons c m ih =>
    obtain ⟨k, y⟩ := c
    by_cases h : k = a
    · simp only [erase, h, if_true, ih, List.mem_cons]
      constructor
      · rintro ⟨h1, h2⟩; exact ⟨.inr h1, h2⟩
      · rintro ⟨rfl | h1, h2⟩
        · exact absurd rfl h2
        · exact ⟨h1, h2⟩
    · simp only [erase, h, if_false, List.mem_cons, ih]
      constructor
      · rintro (rfl | ⟨h1, h2⟩)
        · exact ⟨.inl rfl, h⟩
        · exact ⟨.inr h1, h2⟩
      · rintro ⟨rfl | h1, h2⟩
        · exact .inl rfl
        · exact .inr ⟨h1, h2⟩

theorem mem_insert {m : Memory} {a : Nat} {v : Byte} {x : Host.Cell} :
    x ∈ m.insert a v ↔ x = (a, v) ∨ x ∈ m := by
  induction m with
  | nil => simp [insert]
  | cons c m ih =>
    obtain ⟨k, y⟩ := c
    by_cases h : a < k
    · simp [insert, h]
    · simp only [insert, h, if_false, List.mem_cons, ih]
      tauto

/-- Every cell of a memory after a write was there, or is the cell written. -/
theorem mem_write {m : Memory} {a : Nat} {v : Byte} {x : Host.Cell} (h : x ∈ m.write a v) :
    x = (a, v) ∨ x ∈ m := by
  unfold write at h
  split at h
  · exact .inr (mem_erase.mp h).1
  · exact (mem_insert.mp h).imp id fun h => (mem_erase.mp h).1

/-- A byte written reads back. -/
@[simp] theorem read_write_same (m : Memory) (a : Nat) (v : Byte) : (m.write a v).read a = v := by
  unfold write
  split
  · rename_i h; rw [read_erase_same, h]
  · exact read_insert_same _ _ _ (read_erase_same m a) fun x hx => (mem_erase.mp hx).2

/-- A write leaves every other address as it was. -/
theorem read_write_other (m : Memory) {a b : Nat} (v : Byte) (h : b ≠ a) : (m.write a v).read b = m.read b := by
  unfold write
  split
  · exact read_erase_other m h
  · rw [read_insert_other _ _ h, read_erase_other m h]

theorem wfFrom_mono {m : Memory} {lo lo' : Nat} (h : m.wfFrom lo = true) (hle : lo' ≤ lo) : m.wfFrom lo' = true := by
  cases m with
  | nil => rfl
  | cons c m =>
    obtain ⟨k, x⟩ := c
    simp only [wfFrom, Bool.and_eq_true, decide_eq_true_eq] at h ⊢
    exact ⟨⟨by omega, h.1.2⟩, h.2⟩

theorem wfFrom_erase {m : Memory} {lo : Nat} (a : Nat) (h : m.wfFrom lo = true) : (m.erase a).wfFrom lo = true := by
  induction m generalizing lo with
  | nil => rfl
  | cons c m ih =>
    obtain ⟨k, x⟩ := c
    simp only [wfFrom, Bool.and_eq_true, decide_eq_true_eq] at h
    by_cases hk : k = a
    · simp only [erase, hk, if_true]
      exact wfFrom_mono (ih h.2) (by omega)
    · simp only [erase, hk, if_false, wfFrom, Bool.and_eq_true, decide_eq_true_eq]
      exact ⟨h.1, ih h.2⟩

theorem wfFrom_insert {m : Memory} {lo a : Nat} {v : Byte} (hv : v ≠ Config.unwrittenByte) (ha : lo ≤ a)
    (h : m.wfFrom lo = true) (hk : ∀ x ∈ m, x.1 ≠ a) : (m.insert a v).wfFrom lo = true := by
  induction m generalizing lo with
  | nil => simp [insert, wfFrom, ha, hv]
  | cons c m ih =>
    obtain ⟨k, x⟩ := c
    have hka : k ≠ a := hk (k, x) (by simp)
    simp only [wfFrom, Bool.and_eq_true, decide_eq_true_eq] at h
    by_cases hlt : a < k
    · simp only [insert, hlt, if_true, wfFrom, Bool.and_eq_true, decide_eq_true_eq]
      exact ⟨⟨ha, hv⟩, ⟨by omega, h.1.2⟩, h.2⟩
    · simp only [insert, hlt, if_false, wfFrom, Bool.and_eq_true, decide_eq_true_eq]
      exact ⟨h.1, ih (by omega) h.2 fun y hy => hk y (by simp [hy])⟩

/-- A write keeps the canonical form. -/
theorem wf_write {m : Memory} (a : Nat) (v : Byte) (h : m.wf = true) : (m.write a v).wf = true := by
  unfold wf write at *
  split
  · exact wfFrom_erase a h
  · rename_i hv
    exact wfFrom_insert hv (Nat.zero_le a) (wfFrom_erase a h) fun x hx => (mem_erase.mp hx).2

/-- Two canonical memories that read alike everywhere are equal lists. -/
theorem eq_of_read {m m' : Memory} (h : m.wf = true) (h' : m'.wf = true) (hr : ∀ a, m.read a = m'.read a) :
    m = m' := by
  have below : ∀ {m : Memory} {lo a : Nat}, m.wfFrom lo = true → a < lo → m.read a = Config.unwrittenByte := by
    intro m
    induction m with
    | nil => intros; rfl
    | cons c m ih =>
      obtain ⟨k, x⟩ := c
      intro lo a hm ha
      simp only [wfFrom, Bool.and_eq_true, decide_eq_true_eq] at hm
      rw [read, if_neg (by omega), ih hm.2 (by omega)]
  have key : ∀ (m m' : Memory) (lo lo' : Nat), m.wfFrom lo = true → m'.wfFrom lo' = true →
      (∀ a, m.read a = m'.read a) → m = m' := by
    intro m
    induction m with
    | nil =>
      intro m' lo lo' _ h' hr
      cases m' with
      | nil => rfl
      | cons c m' =>
        obtain ⟨k, x⟩ := c
        simp only [wfFrom, Bool.and_eq_true, decide_eq_true_eq] at h'
        exact absurd (by simpa [read] using (hr k).symm) h'.1.2
    | cons c m ih =>
      obtain ⟨k, x⟩ := c
      intro m' lo lo' h h' hr
      simp only [wfFrom, Bool.and_eq_true, decide_eq_true_eq] at h
      cases m' with
      | nil => exact absurd (by simpa [read] using hr k) h.1.2
      | cons c' m' =>
        obtain ⟨k', x'⟩ := c'
        simp only [wfFrom, Bool.and_eq_true, decide_eq_true_eq] at h'
        have hkk : k = k' := by
          rcases Nat.lt_trichotomy k k' with hlt | heq | hgt
          · have := hr k
            rw [read, if_pos rfl, read, if_neg (by omega), below h'.2 (by omega)] at this
            exact absurd this h.1.2
          · exact heq
          · have := hr k'
            rw [read, if_neg (by omega), below h.2 (by omega), read, if_pos rfl] at this
            exact absurd this.symm h'.1.2
        subst hkk
        have hxx : x = x' := by simpa [read] using hr k
        subst hxx
        rw [ih m' (k + 1) (k + 1) h.2 h'.2]
        intro a
        by_cases ha : k = a
        · subst ha; rw [below h.2 (by omega), below h'.2 (by omega)]
        · simpa [read, ha] using hr a
  exact key m m' 0 0 h h' hr

end Memory

end Sys2Proof.Machine
end

