-- ==== Sys2Proof/Laws/State.lean ====
section
/-! SUPPORT. What each update of a register or of the request bits leaves and changes, one lemma a field, all by
definition, so that no later proof unfolds an update. -/

namespace Sys2Proof.Machine

/-! ### Requests -/

@[simp] theorem State.request_cpu (s : State) (b : BitVec 5) : (s.request b).cpu = s.cpu := rfl
@[simp] theorem State.request_clk (s : State) (b : BitVec 5) : (s.request b).clk = s.clk := rfl
@[simp] theorem State.request_ie (s : State) (b : BitVec 5) : (s.request b).ie = s.ie := rfl
@[simp] theorem State.request_iflag (s : State) (b : BitVec 5) : (s.request b).iflag = s.iflag ||| b := rfl
@[simp] theorem State.request_mem (s : State) (b : BitVec 5) : (s.request b).mem = s.mem := rfl
@[simp] theorem State.request_timer (s : State) (b : BitVec 5) : (s.request b).timer = s.timer := rfl
@[simp] theorem State.request_display (s : State) (b : BitVec 5) : (s.request b).display = s.display := rfl
@[simp] theorem State.request_dma (s : State) (b : BitVec 5) : (s.request b).dma = s.dma := rfl
@[simp] theorem State.request_joypad (s : State) (b : BitVec 5) : (s.request b).joypad = s.joypad := rfl
@[simp] theorem State.request_cart (s : State) (b : BitVec 5) : (s.request b).cart = s.cart := rfl
@[simp] theorem State.request_audioStub (s : State) (b : BitVec 5) : (s.request b).audioStub = s.audioStub := rfl
@[simp] theorem State.request_emits (s : State) (b : BitVec 5) : (s.request b).emits = s.emits := rfl
@[simp] theorem State.request_hostInput (s : State) (b : BitVec 5) : (s.request b).hostInput = s.hostInput := rfl
@[simp] theorem State.request_params (s : State) (b : BitVec 5) : (s.request b).params = s.params := rfl

/-! ### The poll -/

@[simp] theorem State.poll_cpu (s : State) : s.poll.cpu = s.cpu := rfl
@[simp] theorem State.poll_clk (s : State) : s.poll.clk = s.clk := rfl
@[simp] theorem State.poll_ie (s : State) : s.poll.ie = s.ie := rfl
@[simp] theorem State.poll_mem (s : State) : s.poll.mem = s.mem := rfl
@[simp] theorem State.poll_timer (s : State) : s.poll.timer = s.timer := rfl
@[simp] theorem State.poll_display (s : State) : s.poll.display = s.display := rfl
@[simp] theorem State.poll_dma (s : State) : s.poll.dma = s.dma := rfl
@[simp] theorem State.poll_joypad (s : State) : s.poll.joypad = s.joypad.poll := rfl
@[simp] theorem State.poll_cart (s : State) : s.poll.cart = s.cart := rfl
@[simp] theorem State.poll_audioStub (s : State) : s.poll.audioStub = s.audioStub := rfl
@[simp] theorem State.poll_emits (s : State) : s.poll.emits = s.emits := rfl
@[simp] theorem State.poll_hostInput (s : State) : s.poll.hostInput = s.hostInput := rfl
@[simp] theorem State.poll_params (s : State) : s.poll.params = s.params := rfl

/-! ### Registers -/

@[simp] theorem Cpu.setReg8_sp (c : Cpu) (r : Reg8) (v : Byte) : (c.setReg8 r v).sp = c.sp := by cases r <;> rfl
@[simp] theorem Cpu.setReg8_pc (c : Cpu) (r : Reg8) (v : Byte) : (c.setReg8 r v).pc = c.pc := by cases r <;> rfl
@[simp] theorem Cpu.setReg8_f (c : Cpu) (r : Reg8) (v : Byte) : (c.setReg8 r v).f = c.f := by cases r <;> rfl
@[simp] theorem Cpu.setReg8_halted (c : Cpu) (r : Reg8) (v : Byte) : (c.setReg8 r v).halted = c.halted := by
  cases r <;> rfl
@[simp] theorem Cpu.setReg8_haltBug (c : Cpu) (r : Reg8) (v : Byte) : (c.setReg8 r v).haltBug = c.haltBug := by
  cases r <;> rfl
@[simp] theorem Cpu.setReg8_prefixedPending (c : Cpu) (r : Reg8) (v : Byte) :
    (c.setReg8 r v).prefixedPending = c.prefixedPending := by cases r <;> rfl
@[simp] theorem Cpu.setReg8_ime (c : Cpu) (r : Reg8) (v : Byte) : (c.setReg8 r v).ime = c.ime := by cases r <;> rfl
@[simp] theorem Cpu.setReg8_imeSched (c : Cpu) (r : Reg8) (v : Byte) : (c.setReg8 r v).imeSched = c.imeSched := by
  cases r <;> rfl
/-- A register written reads back. -/
@[simp] theorem Cpu.reg8_setReg8_same (c : Cpu) (r : Reg8) (v : Byte) : (c.setReg8 r v).reg8 r = v := by
  cases r <;> rfl
/-- A register write leaves the other registers. -/
theorem Cpu.reg8_setReg8_other (c : Cpu) {r q : Reg8} (v : Byte) (h : q ≠ r) : (c.setReg8 r v).reg8 q = c.reg8 q := by
  cases r <;> cases q <;> first | rfl | exact absurd rfl h
/-- Writing the flags and writing a register commute: no register field names F. -/
theorem Cpu.setFlags_setReg8 (c : Cpu) (r : Reg8) (v : Byte) (x : Flags) :
    (c.setReg8 r v).setFlags x = (c.setFlags x).setReg8 r v := by cases r <;> rfl

@[simp] theorem Cpu.setFlags_reg8 (c : Cpu) (x : Flags) (r : Reg8) : (c.setFlags x).reg8 r = c.reg8 r := by
  cases r <;> rfl
@[simp] theorem Cpu.setFlags_sp (c : Cpu) (x : Flags) : (c.setFlags x).sp = c.sp := rfl
@[simp] theorem Cpu.setFlags_pc (c : Cpu) (x : Flags) : (c.setFlags x).pc = c.pc := rfl
@[simp] theorem Cpu.setFlags_f (c : Cpu) (x : Flags) : (c.setFlags x).f = x.toByte := rfl
@[simp] theorem Cpu.setFlags_halted (c : Cpu) (x : Flags) : (c.setFlags x).halted = c.halted := rfl
@[simp] theorem Cpu.setFlags_haltBug (c : Cpu) (x : Flags) : (c.setFlags x).haltBug = c.haltBug := rfl
@[simp] theorem Cpu.setFlags_prefixedPending (c : Cpu) (x : Flags) :
    (c.setFlags x).prefixedPending = c.prefixedPending := rfl
@[simp] theorem Cpu.setFlags_ime (c : Cpu) (x : Flags) : (c.setFlags x).ime = c.ime := rfl
@[simp] theorem Cpu.setFlags_imeSched (c : Cpu) (x : Flags) : (c.setFlags x).imeSched = c.imeSched := rfl

@[simp] theorem Cpu.setPair_f (c : Cpu) (p : Pair) (v : Addr) : (c.setPair p v).f = c.f := by cases p <;> rfl
@[simp] theorem Cpu.setPair_pc (c : Cpu) (p : Pair) (v : Addr) : (c.setPair p v).pc = c.pc := by cases p <;> rfl
@[simp] theorem Cpu.setPair_halted (c : Cpu) (p : Pair) (v : Addr) : (c.setPair p v).halted = c.halted := by
  cases p <;> rfl
@[simp] theorem Cpu.setPair_haltBug (c : Cpu) (p : Pair) (v : Addr) : (c.setPair p v).haltBug = c.haltBug := by
  cases p <;> rfl
@[simp] theorem Cpu.setPair_prefixedPending (c : Cpu) (p : Pair) (v : Addr) :
    (c.setPair p v).prefixedPending = c.prefixedPending := by cases p <;> rfl

/-! ### Bytes and flags -/

/-- The two bytes of a word, and the word of two bytes (R86). -/
@[simp] theorem hiByte_concat8 (hi lo : Byte) : hiByte (concat8 hi lo) = hi := by
  unfold hiByte concat8
  apply BitVec.eq_of_getLsbD_eq
  intro i h
  rw [BitVec.getLsbD_extractLsb', BitVec.getLsbD_append]
  simp [h]

@[simp] theorem loByte_concat8 (hi lo : Byte) : loByte (concat8 hi lo) = lo := by
  unfold loByte concat8
  apply BitVec.eq_of_getLsbD_eq
  intro i h
  rw [BitVec.getLsbD_extractLsb', BitVec.getLsbD_append]
  simp [h]

@[simp] theorem concat8_bytes (v : BitVec 16) : concat8 (hiByte v) (loByte v) = v := by
  unfold hiByte loByte concat8
  apply BitVec.eq_of_getLsbD_eq
  intro i h
  rw [BitVec.getLsbD_append, BitVec.getLsbD_extractLsb', BitVec.getLsbD_extractLsb']
  by_cases hi : i < 8
  · simp [hi]
  · simp [hi, show i - 8 < 8 by omega, show 8 + (i - 8) = i by omega]

/-- Flags written to F and read back. -/
@[simp] theorem Flags.ofByte_toByte (x : Flags) : Flags.ofByte x.toByte = x := by
  obtain ⟨z, n, h, c⟩ := x
  revert z n h c
  decide

@[simp] theorem Cpu.flags_setFlags (c : Cpu) (x : Flags) : (c.setFlags x).flags = x := by
  simp [Cpu.flags]

/-- F's low four bits are zero once the flags are written (R27). -/
@[simp] theorem Flags.toByte_low (x : Flags) : x.toByte &&& 0x0F = 0 := by
  obtain ⟨z, n, h, c⟩ := x
  revert z n h c
  decide

end Sys2Proof.Machine
end

