-- ==== Sys2Proof/Laws/Ops.lean ====
section
/-! SUPPORT. The shared operations, one lemma each that says all it can do: how operations compose, the bus, the tick and
its charging, and fetching. Callers cite these and do not unfold the operation. -/

namespace Sys2Proof.Machine

/-! ### Another CPU -/

/-- A state with another CPU. -/
def State.withCpu (s : State) (c : Cpu) : State := { s with cpu := c }

@[simp] theorem withCpu_cpu (s : State) (c : Cpu) : (s.withCpu c).cpu = c := rfl
@[simp] theorem withCpu_clk (s : State) (c : Cpu) : (s.withCpu c).clk = s.clk := rfl
@[simp] theorem withCpu_ie (s : State) (c : Cpu) : (s.withCpu c).ie = s.ie := rfl
@[simp] theorem withCpu_iflag (s : State) (c : Cpu) : (s.withCpu c).iflag = s.iflag := rfl
@[simp] theorem withCpu_mem (s : State) (c : Cpu) : (s.withCpu c).mem = s.mem := rfl
@[simp] theorem withCpu_timer (s : State) (c : Cpu) : (s.withCpu c).timer = s.timer := rfl
@[simp] theorem withCpu_display (s : State) (c : Cpu) : (s.withCpu c).display = s.display := rfl
@[simp] theorem withCpu_dma (s : State) (c : Cpu) : (s.withCpu c).dma = s.dma := rfl
@[simp] theorem withCpu_joypad (s : State) (c : Cpu) : (s.withCpu c).joypad = s.joypad := rfl
@[simp] theorem withCpu_cart (s : State) (c : Cpu) : (s.withCpu c).cart = s.cart := rfl
@[simp] theorem withCpu_audioStub (s : State) (c : Cpu) : (s.withCpu c).audioStub = s.audioStub := rfl
@[simp] theorem withCpu_emits (s : State) (c : Cpu) : (s.withCpu c).emits = s.emits := rfl
@[simp] theorem withCpu_hostInput (s : State) (c : Cpu) : (s.withCpu c).hostInput = s.hostInput := rfl
@[simp] theorem withCpu_params (s : State) (c : Cpu) : (s.withCpu c).params = s.params := rfl
@[simp] theorem withCpu_withCpu (s : State) (c k : Cpu) : (s.withCpu c).withCpu k = s.withCpu k := rfl
@[simp] theorem withCpu_self (s : State) : s.withCpu s.cpu = s := rfl
theorem withCpu_of_cpu {s : State} {c : Cpu} (h : s.cpu = c) : s.withCpu c = s := by rw [← h]; rfl

/-! ### Composition -/

/-- A sequence whose first operation completes goes on with its second. -/
theorem bind_of_ok {α β : Type} {x : Op α} {f : α → Op β} {s t : State} {a : α} (h : x s = .ok a t) :
    (x >>= f) s = f a t := by
  show EStateM.bind x f s = _
  simp only [EStateM.bind, h]

/-- A sequence whose first operation raises ends there. -/
theorem bind_of_error {α β : Type} {x : Op α} {f : α → Op β} {s t : State} {r : Raise} (h : x s = .error r t) :
    (x >>= f) s = .error r t := by
  show EStateM.bind x f s = _
  simp only [EStateM.bind, h]

/-- A sequence that completes, taken apart. -/
theorem bind_ok_iff {α β : Type} {x : Op α} {f : α → Op β} {s u : State} {b : β} :
    (x >>= f) s = .ok b u ↔ ∃ a t, x s = .ok a t ∧ f a t = .ok b u := by
  constructor
  · intro h
    cases hx : x s with
    | ok a t => exact ⟨a, t, rfl, by rw [← h, bind_of_ok hx]⟩
    | error r t => rw [bind_of_error hx] at h; cases h
  · rintro ⟨a, t, hx, hf⟩
    rw [bind_of_ok hx, hf]

@[simp] theorem look_run {α : Type} (f : State → α) (s : State) : look f s = .ok (f s) s := rfl
@[simp] theorem update_run (f : State → State) (s : State) : update f s = .ok () (f s) := rfl
@[simp] theorem updateCpu_run (f : Cpu → Cpu) (s : State) : updateCpu f s = .ok () (s.withCpu (f s.cpu)) := rfl
@[simp] theorem pure_run {α : Type} (a : α) (s : State) : (pure a : Op α) s = .ok a s := rfl
@[simp] theorem look_bind {α β : Type} (f : State → α) (g : α → Op β) (s : State) :
    (look f >>= g) s = g (f s) s := rfl
@[simp] theorem update_bind {β : Type} (f : State → State) (g : Unit → Op β) (s : State) :
    (update f >>= g) s = g () (f s) := rfl
@[simp] theorem updateCpu_bind {β : Type} (f : Cpu → Cpu) (g : Unit → Op β) (s : State) :
    (updateCpu f >>= g) s = g () (s.withCpu (f s.cpu)) := rfl
@[simp] theorem pure_bind' {α β : Type} (a : α) (g : α → Op β) (s : State) : ((pure a : Op α) >>= g) s = g a s := rfl

theorem after_of_ok {α : Type} {op : Op α} {s t : State} {a : α} (h : op s = .ok a t) : s.after op = t := by
  simp only [State.after, h]

/-- A meaning whose operation completes answers the next state. -/
theorem answer_of_ok {op : Op Unit} {s t : State} (h : op s = .ok () t) : answer op s = .next t := by
  simp only [answer, h]

/-- A meaning whose operation raises answers the fault, with the state kept. -/
theorem answer_of_error {op : Op Unit} {s t : State} {r : Raise} (h : op s = .error r t) :
    answer op s = .fault (r.keep t) := by
  simp only [answer, h]

theorem answer_next_iff {op : Op Unit} {s t : State} : answer op s = .next t ↔ op s = .ok () t := by
  constructor
  · intro h
    cases hx : op s with
    | ok a u => rw [answer_of_ok hx] at h; cases h; rfl
    | error r u => rw [answer_of_error hx] at h; cases h
  · exact answer_of_ok

/-! ### The bus -/

/-- Reading an address completes unless it is RAM the cartridge has not got. -/
theorem busRead_ok (s : State) (a : Addr) (h : s.cart.ramMissing = true → region a ≠ .extRam) :
    busRead a s = .ok (s.peek a) (s.loaded a) := by
  unfold State.peek State.loaded State.after
  cases hr : region a <;> simp only [busRead, hr]
  · cases hm : s.cart.ramMissing
    · simp
    · exact absurd hr (h hm)
  · cases ioReg s.params a <;> rfl

/-- Reading RAM the cartridge has not got ends the run there. -/
theorem busRead_error (s : State) (a : Addr) (h : s.cart.ramMissing = true) (ha : region a = .extRam) :
    busRead a s = .error (.configError .noRam) s := by
  simp only [busRead, ha, h, if_true]

/-- Writing an address completes unless it is RAM the cartridge has not got. -/
theorem busWrite_ok (s : State) (a : Addr) (v : Byte) (h : s.cart.ramMissing = true → region a ≠ .extRam) :
    busWrite a v s = .ok () (s.stored a v) := by
  unfold State.stored State.after
  cases hr : region a <;> simp only [busWrite, hr]
  · cases hm : s.cart.ramMissing
    · simp
    · exact absurd hr (h hm)
  · cases ioReg s.params a <;> rfl

theorem busWrite_error (s : State) (a : Addr) (v : Byte) (h : s.cart.ramMissing = true)
    (ha : region a = .extRam) : busWrite a v s = .error (.configError .noRam) s := by
  simp only [busWrite, ha, h, if_true]

/-- What a read leaves: the state itself, or polled at the input register (R89). -/
theorem loaded_cases (s : State) (a : Addr) : s.loaded a = s ∨ s.loaded a = s.poll := by
  unfold State.loaded State.after
  cases hr : region a <;> simp only [busRead, hr, true_or]
  · cases s.cart.ramMissing <;> simp
  · cases hi : ioReg s.params a with
    | none => simp
    | some r => cases r <;> simp [State.ioReadEffect]

@[simp] theorem loaded_cpu (s : State) (a : Addr) : (s.loaded a).cpu = s.cpu := by
  rcases loaded_cases s a with h | h <;> rw [h]; rfl
@[simp] theorem loaded_clk (s : State) (a : Addr) : (s.loaded a).clk = s.clk := by
  rcases loaded_cases s a with h | h <;> rw [h]; rfl
@[simp] theorem loaded_ie (s : State) (a : Addr) : (s.loaded a).ie = s.ie := by
  rcases loaded_cases s a with h | h <;> rw [h]; rfl
@[simp] theorem loaded_mem (s : State) (a : Addr) : (s.loaded a).mem = s.mem := by
  rcases loaded_cases s a with h | h <;> rw [h]; rfl
@[simp] theorem loaded_timer (s : State) (a : Addr) : (s.loaded a).timer = s.timer := by
  rcases loaded_cases s a with h | h <;> rw [h]; rfl
@[simp] theorem loaded_display (s : State) (a : Addr) : (s.loaded a).display = s.display := by
  rcases loaded_cases s a with h | h <;> rw [h]; rfl
@[simp] theorem loaded_dma (s : State) (a : Addr) : (s.loaded a).dma = s.dma := by
  rcases loaded_cases s a with h | h <;> rw [h]; rfl
@[simp] theorem loaded_cart (s : State) (a : Addr) : (s.loaded a).cart = s.cart := by
  rcases loaded_cases s a with h | h <;> rw [h]; rfl
@[simp] theorem loaded_audioStub (s : State) (a : Addr) : (s.loaded a).audioStub = s.audioStub := by
  rcases loaded_cases s a with h | h <;> rw [h]; rfl
@[simp] theorem loaded_emits (s : State) (a : Addr) : (s.loaded a).emits = s.emits := by
  rcases loaded_cases s a with h | h <;> rw [h]; rfl
@[simp] theorem loaded_hostInput (s : State) (a : Addr) : (s.loaded a).hostInput = s.hostInput := by
  rcases loaded_cases s a with h | h <;> rw [h]; rfl
@[simp] theorem loaded_params (s : State) (a : Addr) : (s.loaded a).params = s.params := by
  rcases loaded_cases s a with h | h <;> rw [h]; rfl
@[simp] theorem loaded_sel (s : State) (a : Addr) : (s.loaded a).joypad.sel = s.joypad.sel := by
  rcases loaded_cases s a with h | h <;> rw [h]; rfl
@[simp] theorem loaded_buttons (s : State) (a : Addr) : (s.loaded a).joypad.buttons = s.joypad.buttons := by
  rcases loaded_cases s a with h | h <;> rw [h]; rfl

/-! ### Regions -/

theorem region_oam {a : Addr} : region a = .oam ↔ 0xFE00 ≤ a.toNat ∧ a.toNat < 0xFEA0 := by
  unfold region
  simp only []
  repeat' split
  all_goals simp only [reduceCtorEq, true_iff, false_iff]; omega

theorem region_extRam {a : Addr} : region a = .extRam ↔ 0xA000 ≤ a.toNat ∧ a.toNat < 0xC000 := by
  unfold region
  simp only []
  repeat' split
  all_goals simp only [reduceCtorEq, true_iff, false_iff]; omega

theorem region_romWindow {a : Addr} : region a = .romWindow ↔ a.toNat < 0x8000 := by
  unfold region
  simp only []
  repeat' split
  all_goals simp only [reduceCtorEq, true_iff, false_iff]; omega

theorem region_io {a : Addr} : region a = .io ↔ 0xFF00 ≤ a.toNat ∧ a.toNat < 0xFF80 := by
  unfold region
  simp only []
  repeat' split
  all_goals simp only [reduceCtorEq, true_iff, false_iff]; omega

theorem region_ie {a : Addr} : region a = .ieRegister ↔ a.toNat = 0xFFFF := by
  have := a.isLt
  unfold region
  simp only []
  repeat' split
  all_goals simp only [reduceCtorEq, true_iff, false_iff]; omega

theorem isStorage_iff {a : Addr} : isStorage a = true ↔
    region a = .vram ∨ region a = .wram ∨ region a = .oam ∨ region a = .hram := by
  unfold isStorage
  cases region a <;> simp

/-! ### What an uncharged access does in each region -/

theorem peek_storage {s : State} {a : Addr} (h : isStorage a = true) : s.peek a = s.mem.read a.toNat := by
  rcases isStorage_iff.mp h with h | h | h | h <;> simp only [State.peek, busRead, h]

theorem stored_storage {s : State} {a : Addr} (v : Byte) (h : isStorage a = true) :
    s.stored a v = { s with mem := s.mem.write a.toNat v } := by
  rcases isStorage_iff.mp h with h | h | h | h <;> simp only [State.stored, State.after, busWrite, h]

/-- The same byte stands at an address that is no I/O register in two states alike in what it is read from. -/
theorem peek_congr {s t : State} {a : Addr} (hio : region a ≠ .io)
    (hmem : isStorage a = true → t.mem.read a.toNat = s.mem.read a.toNat) (hcart : t.cart = s.cart)
    (hie : t.ie = s.ie) (hp : t.params = s.params) : t.peek a = s.peek a := by
  by_cases h : isStorage a = true
  · rw [peek_storage h, peek_storage h, hmem h]
  · have hne : ¬ (region a = .vram ∨ region a = .wram ∨ region a = .oam ∨ region a = .hram) :=
      fun h' => h (isStorage_iff.mpr h')
    unfold State.peek
    cases hr : region a <;> simp [hr] at hne hio <;> simp only [busRead, hr, hcart, hie, hp]
    cases s.cart.ramMissing <;> simp

/-- A read has no side effect but at an I/O register. -/
theorem loaded_of_not_io {s : State} {a : Addr} (h : region a ≠ .io) : s.loaded a = s := by
  unfold State.loaded State.after
  cases hr : region a <;> simp only [busRead, hr]
  · cases s.cart.ramMissing <;> simp
  · exact absurd hr h

@[simp] theorem stored_cpu (s : State) (a : Addr) (v : Byte) : (s.stored a v).cpu = s.cpu := by
  unfold State.stored State.after
  cases hr : region a <;> simp only [busWrite, hr]
  · cases s.cart.ramMissing <;> rfl
  · cases ioReg s.params a with
    | none => rfl
    | some r => cases r <;> rfl
@[simp] theorem stored_clk (s : State) (a : Addr) (v : Byte) : (s.stored a v).clk = s.clk := by
  unfold State.stored State.after
  cases hr : region a <;> simp only [busWrite, hr]
  · cases s.cart.ramMissing <;> rfl
  · cases ioReg s.params a with
    | none => rfl
    | some r => cases r <;> rfl
@[simp] theorem stored_params (s : State) (a : Addr) (v : Byte) : (s.stored a v).params = s.params := by
  unfold State.stored State.after
  cases hr : region a <;> simp only [busWrite, hr]
  · cases s.cart.ramMissing <;> rfl
  · cases ioReg s.params a with
    | none => rfl
    | some r => cases r <;> rfl
@[simp] theorem stored_hostInput (s : State) (a : Addr) (v : Byte) : (s.stored a v).hostInput = s.hostInput := by
  unfold State.stored State.after
  cases hr : region a <;> simp only [busWrite, hr]
  · cases s.cart.ramMissing <;> rfl
  · cases ioReg s.params a with
    | none => rfl
    | some r => cases r <;> rfl
@[simp] theorem stored_emits (s : State) (a : Addr) (v : Byte) : (s.stored a v).emits = s.emits := by
  unfold State.stored State.after
  cases hr : region a <;> simp only [busWrite, hr]
  · cases s.cart.ramMissing <;> rfl
  · cases ioReg s.params a with
    | none => rfl
    | some r => cases r <;> rfl

/-! ### Ticks -/

/-- Nothing happens in no ticks. -/
theorem Ticked.refl (s : State) : Ticked 0 s s := by
  constructor <;> simp

theorem kept_trans {a b c : BitVec 5} (h : a &&& b = a) (h' : b &&& c = b) : a &&& c = a := by
  rw [← h, BitVec.and_assoc, h']

/-- What some ticks and then some more may change. -/
theorem Ticked.trans {n m : Nat} {s t u : State} (h : Ticked n s t) (h' : Ticked m t u) : Ticked (n + m) s u where
  clk := by rw [h'.clk, h.clk]; omega
  cpu := h'.cpu.trans h.cpu
  ie := h'.ie.trans h.ie
  requestsKept := kept_trans h.requestsKept h'.requestsKept
  serialKept := h'.serialKept.trans h.serialKept
  memory a ha := (h'.memory a ha).trans (h.memory a ha)
  idleDma hs := by
    obtain ⟨h1, h2⟩ := h.idleDma hs
    obtain ⟨h3, h4⟩ := h'.idleDma (by rw [h2]; exact hs)
    exact ⟨h3.trans h1, h4.trans h2⟩
  cart := h'.cart.trans h.cart
  timerRegisters := by
    have a := h.timerRegisters; have b := h'.timerRegisters
    exact ⟨b.1.trans a.1, b.2.trans a.2⟩
  displayRegisters := by
    obtain ⟨a0, a1, a2, a3, a4, a5, a6, a7, a8, a9⟩ := h.displayRegisters
    obtain ⟨b0, b1, b2, b3, b4, b5, b6, b7, b8, b9⟩ := h'.displayRegisters
    exact ⟨b0.trans a0, b1.trans a1, b2.trans a2, b3.trans a3, b4.trans a4, b5.trans a5, b6.trans a6, b7.trans a7,
      b8.trans a8, b9.trans a9⟩
  dmaRegister := h'.dmaRegister.trans h.dmaRegister
  inputs := by
    obtain ⟨a0, a1, a2⟩ := h.inputs
    obtain ⟨b0, b1, b2⟩ := h'.inputs
    exact ⟨b0.trans a0, b1.trans a1, b2.trans a2⟩
  audioStub := h'.audioStub.trans h.audioStub
  params := h'.params.trans h.params
  emits := h.emits.trans h'.emits

/-- A tick of the timer leaves its registers to writes. -/
theorem Timer.tick_registers (t : Timer) : t.tick.1.tma = t.tma ∧ t.tick.1.tac = t.tac := by
  unfold Timer.tick Timer.detectEdge Timer.incTima Timer.pendingTick
  simp only []
  repeat' split
  all_goals exact ⟨rfl, rfl⟩

/-- The display registers (R43), as writes leave them. -/
def Display.SameRegisters (d e : Display) : Prop :=
  e.lcdc = d.lcdc ∧ e.statEn = d.statEn ∧ e.scy = d.scy ∧ e.scx = d.scx ∧ e.lyc = d.lyc ∧ e.bgp = d.bgp ∧
    e.obp0 = d.obp0 ∧ e.obp1 = d.obp1 ∧ e.wy = d.wy ∧ e.wx = d.wx

theorem Display.SameRegisters.refl (d : Display) : d.SameRegisters d := ⟨rfl, rfl, rfl, rfl, rfl, rfl, rfl, rfl, rfl, rfl⟩

theorem Display.SameRegisters.trans {d e f : Display} (h : d.SameRegisters e) (h' : e.SameRegisters f) :
    d.SameRegisters f := by
  obtain ⟨a0, a1, a2, a3, a4, a5, a6, a7, a8, a9⟩ := h
  obtain ⟨b0, b1, b2, b3, b4, b5, b6, b7, b8, b9⟩ := h'
  exact ⟨b0.trans a0, b1.trans a1, b2.trans a2, b3.trans a3, b4.trans a4, b5.trans a5, b6.trans a6, b7.trans a7,
    b8.trans a8, b9.trans a9⟩

theorem Display.mode2Tick_registers (m : Memory) (d : Display) : d.SameRegisters (d.mode2Tick m) := by
  unfold Display.mode2Tick Display.scanEntry
  simp only []
  repeat' split
  all_goals exact .refl d

theorem Display.arbitrate_registers (d : Display) : d.SameRegisters d.arbitrate.1 := by
  unfold Display.arbitrate Display.enterWindow
  simp only []
  repeat' split
  all_goals exact .refl d

theorem Display.fetcherAct_registers (m : Memory) (d : Display) : d.SameRegisters (d.fetcherAct m) := by
  unfold Display.fetcherAct Display.pushBackground Display.pushSprite
  simp only []
  repeat' split
  all_goals first | exact .refl d | skip
  all_goals
    rename_i h
    split at h
    · cases h
    · cases h; exact .refl d

theorem Display.fetcherStep_registers (m : Memory) (d : Display) : d.SameRegisters (d.fetcherStep m) := by
  unfold Display.fetcherStep
  simp only []
  split
  · split
    · exact .refl d
    · exact .trans (e := { d with fSub := d.fSub + 1 }) (.refl d) (fetcherAct_registers m _)
  · exact fetcherAct_registers m d

theorem Display.mixerStep_registers (d : Display) : d.SameRegisters d.mixerStep.1 := by
  unfold Display.mixerStep
  repeat' split
  all_goals exact .refl d

theorem Display.endLine_registers (d : Display) : d.SameRegisters d.endLine.1 := by
  unfold Display.endLine Display.lineReset
  simp only []
  repeat' split
  all_goals exact .refl d

theorem Display.mixWhen_registers (run : Bool) (d : Display) : d.SameRegisters (d.mixWhen run).1 := by
  unfold Display.mixWhen
  split
  · exact mixerStep_registers d
  · exact .refl d

theorem Display.drawnDot_registers (d : Display) : d.SameRegisters d.drawnDot.1 := by
  unfold Display.drawnDot
  simp only []
  split
  · exact .trans (e := { d with dot := d.dot + 1 }) (.refl d) (endLine_registers _)
  · split <;> exact .refl d

theorem Display.mode3Tick_registers (m : Memory) (d : Display) : d.SameRegisters (d.mode3Tick m).1 :=
  ((arbitrate_registers d).trans (fetcherStep_registers m d.arbitrate.1)).trans
    ((mixWhen_registers d.arbitrate.2 _).trans (drawnDot_registers _))

theorem Display.tick_registers (m : Memory) (d : Display) : d.SameRegisters (d.tick m).1 := by
  unfold Display.tick
  simp only []
  split
  · refine .trans (e := (d.modeTick m).1) ?_ (by unfold Display.statUpdate; exact .refl _)
    unfold Display.modeTick
    split
    · exact mode2Tick_registers m d
    · exact mode3Tick_registers m d
    · unfold Display.mode0Tick
      simp only []
      split
      · exact .trans (e := { d with dot := d.dot + 1 }) (.refl d) (endLine_registers _)
      · exact .refl d
    · unfold Display.mode1Tick
      simp only []
      repeat' split
      all_goals exact .refl d
  · unfold Display.forceOff Display.lineReset
    exact .refl d

theorem Display.endLine_requests (d : Display) : d.endLine.2 = 0 ∨ d.endLine.2 = 0b00001 := by
  unfold Display.endLine
  simp only [apply_ite Prod.snd]
  split <;> split <;> simp

theorem Display.drawnDot_requests (d : Display) : d.drawnDot.2 = 0 ∨ d.drawnDot.2 = 0b00001 := by
  unfold Display.drawnDot
  simp only []
  split
  · exact endLine_requests _
  · split <;> simp

theorem Display.modeTick_requests (m : Memory) (d : Display) :
    (d.modeTick m).2.2 = 0 ∨ (d.modeTick m).2.2 = 0b00001 := by
  unfold Display.modeTick
  split
  · exact .inl rfl
  · exact drawnDot_requests _
  · unfold Display.mode0Tick
    simp only []
    split
    · exact endLine_requests _
    · exact .inl rfl
  · exact .inl rfl

/-- A tick of the display controller requests nothing but the vertical-blank and the display-status interrupts (R301). -/
theorem Display.tick_requests (m : Memory) (d : Display) : (d.tick m).2.2 &&& 0b11100 = 0 := by
  unfold Display.tick
  simp only []
  split
  · have h1 := modeTick_requests m d
    have h2 : (d.modeTick m).1.statUpdate.2 = 0 ∨ (d.modeTick m).1.statUpdate.2 = 0b00010 := by
      unfold Display.statUpdate
      simp only []
      split <;> simp
    show ((d.modeTick m).2.2 ||| (d.modeTick m).1.statUpdate.2) &&& 0b11100 = 0
    rcases h1 with h1 | h1 <;> rcases h2 with h2 | h2 <;> rw [h1, h2] <;> decide
  · show (0 : BitVec 5) &&& 0b11100 = 0
    decide

theorem request_kept (a b : BitVec 5) : a &&& (a ||| b) = a := by
  ext i h
  simp
  exact fun h => .inl h

theorem request_serial {a b : BitVec 5} (h : b.getLsbD 3 = false) : (a ||| b).getLsbD 3 = a.getLsbD 3 := by
  rw [BitVec.getLsbD_or, h, Bool.or_false]

/-- The clock and the timer's part of a tick. -/
theorem timerTick_ticked (s : State) : Ticked 1 s s.timerTick := by
  constructor <;> try rfl
  · exact request_kept _ _
  · refine request_serial ?_
    split <;> rfl
  · intro _ _; rfl
  · intro _; exact ⟨rfl, rfl⟩
  · exact s.timer.tick_registers
  · exact Display.SameRegisters.refl _
  · exact ⟨rfl, rfl, rfl⟩

/-- The display controller's part of a tick. -/
theorem displayTick_ticked (s : State) : Ticked 0 s s.displayTick := by
  constructor <;> try rfl
  · exact request_kept _ _
  · refine request_serial ?_
    have h := Display.tick_requests s.mem s.display
    have := congrArg (fun x => BitVec.getLsbD x 3) h
    simpa [BitVec.getLsbD_and] using this
  · intro _ _; rfl
  · intro _; exact ⟨rfl, rfl⟩
  · exact ⟨rfl, rfl⟩
  · exact Display.tick_registers s.mem s.display
  · exact ⟨rfl, rfl, rfl⟩
  · exact List.suffix_append _ _

/-- A read changes no more than ticks may. -/
theorem loaded_ticked (s : State) (a : Addr) : Ticked 0 s (s.loaded a) := by
  rcases loaded_cases s a with h | h <;> rw [h]
  · exact Ticked.refl s
  · constructor <;> try rfl
    · exact request_kept _ _
    · refine request_serial ?_
      split <;> rfl
    · intro _ _; rfl
    · intro _; exact ⟨rfl, rfl⟩
    · exact ⟨rfl, rfl⟩
    · exact Display.SameRegisters.refl _
    · exact ⟨rfl, rfl, rfl⟩

theorem Dma.ok_iff {d : Dma} : d.ok = true ↔
    (d.active = true → 0xFE00 ≤ d.dst.toNat ∧ d.dst.toNat ≤ 0xFEA0 ∧ loByte d.src = loByte d.dst) := by
  unfold Dma.ok
  cases d.active <;> simp [and_assoc]

theorem loByte_toNat (v : BitVec 16) : (loByte v).toNat = v.toNat % 256 := by
  simp [loByte, BitVec.extractLsb'_toNat]

/-- A transfer's next byte: the write goes to OAM, and the cursors stay in step and in their page. -/
theorem Dma.advance_ok {d : Dma} (h : d.ok = true) (ha : d.active = true) (hd : d.dst.toNat ≤ 0xFE9F) :
    region d.dst = .oam ∧ d.advance.ok = true ∧
      (region d.src ≠ .extRam → region d.advance.src ≠ .extRam) := by
  obtain ⟨h1, h2, h3⟩ := Dma.ok_iff.mp h ha
  have h3' : d.src.toNat % 256 = d.dst.toNat % 256 := by rw [← loByte_toNat, h3, loByte_toNat]
  have hs : (d.src + 1).toNat = d.src.toNat + 1 := by
    have := d.src.isLt
    rw [BitVec.toNat_add, show (1 : BitVec 16).toNat = 1 from rfl]
    omega
  have ht : (d.dst + 1).toNat = d.dst.toNat + 1 := by
    rw [BitVec.toNat_add, show (1 : BitVec 16).toNat = 1 from rfl]
    omega
  refine ⟨region_oam.mpr ⟨h1, by omega⟩, Dma.ok_iff.mpr fun _ => ?_, ?_⟩
  · simp only [Dma.advance, ht]
    refine ⟨by omega, by omega, BitVec.eq_of_toNat_eq ?_⟩
    rw [loByte_toNat, loByte_toNat, hs, ht]
    omega
  · simp only [Dma.advance, ne_eq, region_extRam, hs]
    omega

theorem isStorage_of_oam {a : Addr} (h : region a = .oam) : isStorage a = true := by
  simp only [isStorage, h]

/-- Every case of the DMA machine's tick where no transfer is reading RAM that is not there. -/
theorem dmaTick_cases (s : State) (h : s.chargeSafe) :
    (s.dma.active = false ∧ dmaTick s = .ok () s) ∨
    (s.dma.active = true ∧ 0 < s.dma.wait ∧
      dmaTick s = .ok () { s with dma := { s.dma with wait := s.dma.wait - 1 } }) ∨
    (s.dma.active = true ∧ s.dma.wait = 0 ∧ 0xFE9F < s.dma.dst.toNat ∧
      dmaTick s = .ok () { s with dma := { s.dma with active := false } }) ∨
    (s.dma.active = true ∧ s.dma.wait = 0 ∧ s.dma.dst.toNat ≤ 0xFE9F ∧ region s.dma.dst = .oam ∧
      dmaTick s = .ok () { (s.loaded s.dma.src).stored s.dma.dst (s.peek s.dma.src) with
        dma := s.dma.advance }) := by
  cases ha : s.dma.active
  · exact .inl ⟨rfl, by simp [dmaTick, ha]⟩
  · right
    by_cases hw : 0 < s.dma.wait
    · exact .inl ⟨rfl, hw, by simp [dmaTick, ha, hw]⟩
    · right
      have hw0 : s.dma.wait = 0 := by omega
      by_cases hd : 0xFE9F < s.dma.dst.toNat
      · exact .inl ⟨rfl, hw0, hd, by simp [dmaTick, ha, hw, hd]⟩
      · right
        obtain ⟨hoam, -, -⟩ := Dma.advance_ok h.1 ha (by omega)
        refine ⟨rfl, hw0, by omega, hoam, ?_⟩
        have hr := busRead_ok s s.dma.src fun hm => h.2 hm ha
        have hwr := busWrite_ok (s.loaded s.dma.src) s.dma.dst (s.peek s.dma.src) (by simp [hoam])
        have hdma : ((s.loaded s.dma.src).stored s.dma.dst (s.peek s.dma.src)).dma = s.dma := by
          rw [stored_storage _ (isStorage_of_oam hoam)]
          simp
        simp only [dmaTick, ha, hw, hd, if_false, dmaCopy, look_bind, Bool.true_eq_false]
        rw [bind_of_ok hr, bind_of_ok hwr]
        simp [hdma]

/-- The DMA machine's part of a tick. -/
theorem dmaTick_ok (s : State) (h : s.chargeSafe) :
    ∃ t, dmaTick s = .ok () t ∧ Ticked 0 s t ∧ t.chargeSafe := by
  rcases dmaTick_cases s h with ⟨-, e⟩ | ⟨ha, hw, e⟩ | ⟨ha, -, -, e⟩ | ⟨ha, -, hd, hoam, e⟩
  · exact ⟨s, e, Ticked.refl s, h⟩
  · refine ⟨_, e, ?_, h⟩
    constructor <;> first | rfl | (intros; rfl) | simp
    intro h'
    simp [ha] at h'
  · refine ⟨_, e, ?_, ?_⟩
    · constructor <;> first | rfl | (intros; rfl) | simp
      intro h'
      simp [ha] at h'
    · refine ⟨by simp [Dma.ok], by simp⟩
  · obtain ⟨-, hok, hsrc⟩ := Dma.advance_ok h.1 ha hd
    refine ⟨_, e, ?_, ?_⟩
    · have hl := loaded_ticked s s.dma.src
      rw [stored_storage _ (isStorage_of_oam hoam)]
      constructor <;> try simp
      · exact hl.requestsKept
      · exact hl.serialKept
      · intro a ha'
        refine Memory.read_write_other _ _ fun hx => ha' ?_
        have := BitVec.eq_of_toNat_eq hx
        rw [this, hoam]
      · simp [ha]
      · simp [Dma.advance]
    · rw [stored_storage _ (isStorage_of_oam hoam)]
      refine ⟨hok, fun hm _ => ?_⟩
      have hm' : s.cart.ramMissing = true := by simpa using hm
      exact hsrc (h.2 hm' ha)

theorem chargeSafe_of {s t : State} (hd : t.dma = s.dma) (hc : t.cart = s.cart) (h : s.chargeSafe) :
    t.chargeSafe := by
  unfold State.chargeSafe at *
  rw [hd, hc]
  exact h

/-- A tick where no transfer is reading RAM that is not there. -/
theorem tick_ok (s : State) (h : s.chargeSafe) : ∃ t, tick s = .ok () t ∧ Ticked 1 s t ∧ t.chargeSafe := by
  have h1 : s.timerTick.chargeSafe := chargeSafe_of rfl rfl h
  obtain ⟨t, e, ht, hs⟩ := dmaTick_ok s.timerTick h1
  refine ⟨t.displayTick, ?_, ((timerTick_ticked s).trans ht).trans (displayTick_ticked t), chargeSafe_of rfl rfl hs⟩
  simp only [tick, update_bind]
  rw [bind_of_ok e]
  rfl

/-- Any number of ticks. -/
theorem ticks_ok (n : Nat) : ∀ s : State, s.chargeSafe →
    ticks n s = .ok () (s.after (ticks n)) ∧ Ticked n s (s.after (ticks n)) ∧ (s.after (ticks n)).chargeSafe := by
  induction n with
  | zero => exact fun s h => ⟨rfl, Ticked.refl s, h⟩
  | succ n ih =>
    intro s h
    obtain ⟨t, e, ht, hs⟩ := tick_ok s h
    obtain ⟨e', ht', hs'⟩ := ih t hs
    have hrun : ticks (n + 1) s = .ok () (t.after (ticks n)) := by
      show (tick >>= fun _ => ticks n) s = _
      rw [bind_of_ok e, e']
    rw [after_of_ok hrun]
    refine ⟨hrun, ?_, hs'⟩
    have := ht.trans ht'
    rwa [Nat.add_comm] at this

/-- `later` is what a charge leaves. -/
theorem charge_ok {s : State} (m : Nat) (h : s.chargeSafe) : charge m s = .ok () (s.later m) :=
  (ticks_ok (4 * m) s h).1

theorem later_ticked {s : State} (m : Nat) (h : s.chargeSafe) : Ticked (4 * m) s (s.later m) :=
  (ticks_ok (4 * m) s h).2.1

theorem later_chargeSafe {s : State} (m : Nat) (h : s.chargeSafe) : (s.later m).chargeSafe :=
  (ticks_ok (4 * m) s h).2.2

theorem ticks_add (n m : Nat) (s : State) :
    ticks (n + m) s = (ticks n >>= fun _ => ticks m) s := by
  induction n generalizing s with
  | zero => simp [ticks]
  | succ n ih =>
    rw [Nat.succ_add]
    show (tick >>= fun _ => ticks (n + m)) s = ((tick >>= fun _ => ticks n) >>= fun _ => ticks m) s
    cases e : tick s with
    | ok a t =>
      rw [bind_of_ok e, ih]
      cases e' : ticks n t with
      | ok b u =>
        rw [bind_of_ok e', bind_of_ok (by rw [bind_of_ok e, e'])]
      | error r u =>
        rw [bind_of_error e', bind_of_error (by rw [bind_of_ok e, e'])]
    | error r t => rw [bind_of_error e, bind_of_error (bind_of_error e)]

/-- Cycles add up. -/
theorem later_later {s : State} (n m : Nat) (h : s.chargeSafe) : (s.later n).later m = s.later (n + m) := by
  have h1 := charge_ok n h
  have h2 := charge_ok m (later_chargeSafe n h)
  have h3 := charge_ok (n + m) h
  unfold charge at h1 h2 h3
  rw [Nat.mul_add, ticks_add, bind_of_ok h1, h2] at h3
  injection h3

/-! ### The CPU and the ticks -/


/-- An operation that neither reads nor changes the CPU. -/
def Op.CpuBlind {α : Type} (op : Op α) : Prop :=
  ∀ (s : State) (c : Cpu),
    (∀ a t, op s = .ok a t → op (s.withCpu c) = .ok a (t.withCpu c)) ∧
    (∀ r t, op s = .error r t → op (s.withCpu c) = .error r (t.withCpu c))

theorem Op.CpuBlind.bind {α β : Type} {x : Op α} {f : α → Op β} (hx : Op.CpuBlind x) (hf : ∀ a, Op.CpuBlind (f a)) :
    Op.CpuBlind (x >>= f) := by
  intro s c
  cases e : x s with
  | ok a t =>
    have e' := (hx s c).1 a t e
    rw [bind_of_ok e, bind_of_ok e']
    exact hf a t c
  | error r t =>
    have e' := (hx s c).2 r t e
    rw [bind_of_error e, bind_of_error e']
    exact ⟨fun _ _ h => by (cases h), fun _ _ h => by (cases h; rfl)⟩

theorem blind_look {α : Type} {f : State → α} (h : ∀ s c, f (s.withCpu c) = f s) : Op.CpuBlind (look f) :=
  fun s c => ⟨fun _ _ e => by (cases e; rw [look_run, h]), fun _ _ e => by (cases e)⟩

theorem blind_update {f : State → State} (h : ∀ s c, f (s.withCpu c) = (f s).withCpu c) : Op.CpuBlind (update f) :=
  fun s c => ⟨fun _ _ e => by (cases e; rw [update_run, h]), fun _ _ e => by (cases e)⟩

theorem blind_busRead (a : Addr) : Op.CpuBlind (busRead a) := by
  intro s c
  unfold busRead
  rw [withCpu_cart, withCpu_params]
  cases region a <;> simp only [] <;> try exact ⟨fun _ _ e => by (cases e; rfl), fun _ _ e => by (cases e)⟩
  · cases s.cart.ramMissing <;> simp only [if_true, if_false, Bool.false_eq_true]
    · exact ⟨fun _ _ e => by (cases e; rfl), fun _ _ e => by (cases e)⟩
    · exact ⟨fun _ _ e => by (cases e), fun _ _ e => by (cases e; rfl)⟩
  · cases ioReg s.params a with
    | none => exact ⟨fun _ _ e => by (cases e; rfl), fun _ _ e => by (cases e)⟩
    | some r => cases r <;> exact ⟨fun _ _ e => by (cases e; rfl), fun _ _ e => by (cases e)⟩

theorem blind_busWrite (a : Addr) (v : Byte) : Op.CpuBlind (busWrite a v) := by
  intro s c
  unfold busWrite
  rw [withCpu_cart, withCpu_params]
  cases region a <;> simp only [] <;> try exact ⟨fun _ _ e => by (cases e; rfl), fun _ _ e => by (cases e)⟩
  · cases s.cart.ramMissing <;> simp only [if_true, if_false, Bool.false_eq_true]
    · exact ⟨fun _ _ e => by (cases e; rfl), fun _ _ e => by (cases e)⟩
    · exact ⟨fun _ _ e => by (cases e), fun _ _ e => by (cases e; rfl)⟩
  · cases ioReg s.params a with
    | none => exact ⟨fun _ _ e => by (cases e; rfl), fun _ _ e => by (cases e)⟩
    | some r => cases r <;> exact ⟨fun _ _ e => by (cases e; rfl), fun _ _ e => by (cases e)⟩

theorem blind_dmaTick : Op.CpuBlind dmaTick := by
  have hcopy : Op.CpuBlind dmaCopy :=
    .bind (blind_look fun _ _ => rfl) fun _ => .bind (blind_look fun _ _ => rfl) fun _ =>
      .bind (blind_busRead _) fun _ => .bind (blind_busWrite _ _) fun _ => blind_update fun _ _ => rfl
  intro s c
  unfold dmaTick
  rw [withCpu_dma]
  by_cases h1 : s.dma.active = false
  · rw [if_pos h1, if_pos h1]
    exact ⟨fun _ _ e => by (cases e; rfl), fun _ _ e => by (cases e)⟩
  · by_cases h2 : 0 < s.dma.wait
    · simp only [h1, h2, if_true]
      exact ⟨fun _ _ e => by (cases e; rfl), fun _ _ e => by (cases e)⟩
    · by_cases h3 : 0xFE9F < s.dma.dst.toNat
      · simp only [h1, h2, h3, if_true, if_false]
        exact ⟨fun _ _ e => by (cases e; rfl), fun _ _ e => by (cases e)⟩
      · simp only [h1, h2, h3, if_false]
        exact hcopy s c

/-- A tick neither reads nor changes the CPU. -/
theorem blind_tick : Op.CpuBlind tick :=
  .bind (blind_update fun _ _ => rfl) fun _ => .bind blind_dmaTick fun _ => blind_update fun _ _ => rfl

theorem blind_ticks (n : Nat) : Op.CpuBlind (ticks n) := by
  induction n with
  | zero => exact fun s c => ⟨fun _ _ e => by (cases e; rfl), fun _ _ e => by (cases e)⟩
  | succ n ih => exact .bind blind_tick fun _ => ih

theorem after_withCpu {α : Type} {op : Op α} (h : Op.CpuBlind op) (s : State) (c : Cpu) :
    (s.withCpu c).after op = (s.after op).withCpu c := by
  unfold State.after
  cases e : op s with
  | ok a t => rw [(h s c).1 a t e]
  | error r t => rw [(h s c).2 r t e]

/-- An operation that neither reads nor changes the CPU leaves it. -/
theorem Op.CpuBlind.cpu_eq {α : Type} {op : Op α} (h : Op.CpuBlind op) {s t : State} {a : α} (e : op s = .ok a t) :
    t.cpu = s.cpu := by
  have e' := (h s s.cpu).1 a t e
  rw [withCpu_self, e] at e'
  injection e' with _ ht
  rw [ht]
  rfl

@[simp] theorem later_withCpu (s : State) (c : Cpu) (m : Nat) : (s.withCpu c).later m = (s.later m).withCpu c :=
  after_withCpu (blind_ticks _) s c

@[simp] theorem loaded_withCpu (s : State) (c : Cpu) (a : Addr) : (s.withCpu c).loaded a = (s.loaded a).withCpu c :=
  after_withCpu (blind_busRead a) s c

@[simp] theorem stored_withCpu (s : State) (c : Cpu) (a : Addr) (v : Byte) :
    (s.withCpu c).stored a v = (s.stored a v).withCpu c :=
  after_withCpu (blind_busWrite a v) s c

@[simp] theorem peek_withCpu (s : State) (c : Cpu) (a : Addr) : (s.withCpu c).peek a = s.peek a := by
  unfold State.peek
  cases e : busRead a s with
  | ok v t => rw [(blind_busRead a s c).1 v t e]
  | error r t => rw [(blind_busRead a s c).2 r t e, withCpu_params]

/-- The CPU does not change while time passes. -/
theorem later_cpu {s : State} (m : Nat) (h : s.chargeSafe) : (s.later m).cpu = s.cpu := (later_ticked m h).cpu

end Sys2Proof.Machine
end

