-- ==== Sys2Proof/Laws/Access.lean ====
section
/-! SUPPORT. Charged accesses, the stack, and when they cannot end the run: one lemma for each shared operation of the
instructions' meanings. -/

namespace Sys2Proof.Machine

/-! ### Safety kept -/

theorem later_cart {s : State} (m : Nat) (h : s.chargeSafe) : (s.later m).cart = s.cart := (later_ticked m h).cart

theorem chargeSafe_withCpu {s : State} {c : Cpu} : (s.withCpu c).chargeSafe ↔ s.chargeSafe := Iff.rfl

theorem loaded_chargeSafe {s : State} (a : Addr) (h : s.chargeSafe) : (s.loaded a).chargeSafe :=
  chargeSafe_of (by simp) (by simp) h

theorem later_accessSafe {s : State} (m : Nat) {a : Addr} (h : s.accessSafe a) : (s.later m).accessSafe a :=
  ⟨later_chargeSafe m h.1, by rw [later_cart m h.1]; exact h.2⟩

theorem accessSafe_of {s t : State} {a : Addr} (ht : t.chargeSafe) (hc : t.cart = s.cart) (h : s.accessSafe a) :
    t.accessSafe a := ⟨ht, by rw [hc]; exact h.2⟩

theorem ramMissing_ramless {c : Cart} (h : c.ramMissing = true) : c.ramless = true := by
  unfold Cart.ramMissing at h
  unfold Cart.ramless
  simp only [Bool.and_eq_true] at h ⊢
  exact ⟨h.1.1, h.2⟩

theorem writeRom_ramless (c : Cart) (a : Addr) (v : Byte) : (c.writeRom a v).ramless = c.ramless := by
  unfold Cart.writeRom
  repeat' split
  all_goals rfl

theorem writeRam_ramless (c : Cart) (a : Addr) (v : Byte) : (c.writeRam a v).ramless = c.ramless := by
  unfold Cart.writeRam
  split <;> rfl

theorem writeRam_ramMissing (c : Cart) (a : Addr) (v : Byte) : (c.writeRam a v).ramMissing = c.ramMissing := by
  unfold Cart.writeRam
  split <;> rfl

theorem writeRom_ramMissing_of_le {c : Cart} {a : Addr} (v : Byte) (h : 0x2000 ≤ a.toNat) :
    (c.writeRom a v).ramMissing = c.ramMissing := by
  unfold Cart.writeRom
  split
  · rfl
  · rw [if_neg (by omega)]
    repeat' split
    all_goals rfl

/-- What a store does to the DMA machine and the cartridge. -/
theorem stored_dma_cart (s : State) (a : Addr) (v : Byte) :
    ((s.stored a v).dma = s.dma ∨ (a = 0xFF46 ∧ (s.stored a v).dma = Dma.trigger v)) ∧
    ((s.stored a v).cart = s.cart ∨ (a.toNat < 0x8000 ∧ (s.stored a v).cart = s.cart.writeRom a v) ∨
      (s.stored a v).cart = s.cart.writeRam a v) := by
  unfold State.stored State.after
  cases hr : region a <;> simp only [busWrite, hr, true_or, and_true]
  · exact ⟨trivial, .inr (.inl (region_romWindow.mp hr))⟩
  · cases s.cart.ramMissing <;> simp
  · cases hi : ioReg s.params a with
    | none => simp
    | some r =>
      cases r <;> simp only [State.ioWrite, true_or, and_true]
      right
      unfold ioReg ioReg.stub at hi
      split at hi
      · split at hi
        · cases hi
        · split at hi <;> cases hi
      · rename_i r' hr' hl
        cases hi
        have : ∀ n, ioTable.lookup n = some IoReg.dma → n = 0xFF46 := by
          intro n h
          unfold ioTable at h
          simp only [List.cons_append, List.nil_append, List.lookup] at h
          repeat' split at h
          all_goals cases h
          rename_i hb
          simpa using hb
        exact BitVec.eq_of_toNat_eq (this _ hl)
      · split at hi <;> cases hi

theorem dma_trigger_ok (v : Byte) : (Dma.trigger v).ok = true := by
  simp [Dma.ok, Dma.trigger]
  rfl

/-- A store that cannot make a later access end the run does not. -/
theorem stored_chargeSafe {s : State} {a : Addr} (v : Byte) (h : s.chargeSafe) (hs : s.storeSafe a) :
    (s.stored a v).chargeSafe := by
  obtain ⟨hd, hc⟩ := stored_dma_cart s a v
  have hmiss : (s.stored a v).cart.ramMissing = true → s.cart.ramMissing = true ∧ a ≠ 0xFF46 := by
    intro hm
    have hl := ramMissing_ramless hm
    rcases hc with hc | ⟨-, hc⟩ | hc <;> rw [hc] at hm hl
    · exact ⟨hm, (hs hl).2⟩
    · rw [writeRom_ramless] at hl
      rw [writeRom_ramMissing_of_le v (hs hl).1] at hm
      exact ⟨hm, (hs hl).2⟩
    · rw [writeRam_ramless] at hl
      rw [writeRam_ramMissing] at hm
      exact ⟨hm, (hs hl).2⟩
  constructor
  · rcases hd with hd | ⟨-, hd⟩ <;> rw [hd]
    · exact h.1
    · exact dma_trigger_ok v
  · intro hm
    obtain ⟨hm', hne⟩ := hmiss hm
    rcases hd with hd | ⟨he, -⟩
    · rw [hd]; exact h.2 hm'
    · exact absurd he hne

theorem stored_ramMissing {s : State} {a : Addr} (v : Byte) (hs : s.storeSafe a)
    (hm : (s.stored a v).cart.ramMissing = true) : s.cart.ramMissing = true := by
  have hl := ramMissing_ramless hm
  rcases (stored_dma_cart s a v).2 with hc | ⟨-, hc⟩ | hc <;> rw [hc] at hm hl
  · exact hm
  · rw [writeRom_ramless] at hl
    rwa [writeRom_ramMissing_of_le v (hs hl).1] at hm
  · rwa [writeRam_ramMissing] at hm

theorem stored_accessSafe {s : State} {a b : Addr} (v : Byte) (h : s.chargeSafe) (hs : s.storeSafe a)
    (hb : s.accessSafe b) : (s.stored a v).accessSafe b :=
  ⟨stored_chargeSafe v h hs, fun hm => hb.2 (stored_ramMissing v hs hm)⟩

theorem storeSafe_of {s t : State} {a : Addr} (hc : t.cart = s.cart) (h : s.storeSafe a) : t.storeSafe a := by
  unfold State.storeSafe
  rw [hc]
  exact h

/-! ### Charged accesses (R72 to R74) -/

theorem internal_ok {s : State} (h : s.chargeSafe) : internal s = .ok () (s.later 1) := charge_ok 1 h

theorem memRead_ok {s : State} {a : Addr} (h : s.accessSafe a) :
    memRead a s = .ok ((s.later 1).peek a) ((s.later 1).loaded a) := by
  unfold memRead
  rw [bind_of_ok (charge_ok 1 h.1)]
  exact busRead_ok _ _ (later_accessSafe 1 h).2

theorem memWrite_ok {s : State} {a : Addr} (v : Byte) (h : s.accessSafe a) :
    memWrite a v s = .ok () ((s.later 1).stored a v) := by
  unfold memWrite
  rw [bind_of_ok (charge_ok 1 h.1)]
  exact busWrite_ok _ _ _ (later_accessSafe 1 h).2

theorem memRead_error {s : State} {a : Addr} (h : s.chargeSafe) (hm : s.cart.ramMissing = true)
    (ha : region a = .extRam) : memRead a s = .error (.configError .noRam) (s.later 1) := by
  unfold memRead
  rw [bind_of_ok (charge_ok 1 h)]
  exact busRead_error _ _ (by rw [later_cart 1 h]; exact hm) ha

theorem memWrite_error {s : State} {a : Addr} (v : Byte) (h : s.chargeSafe) (hm : s.cart.ramMissing = true)
    (ha : region a = .extRam) : memWrite a v s = .error (.configError .noRam) (s.later 1) := by
  unfold memWrite
  rw [bind_of_ok (charge_ok 1 h)]
  exact busWrite_error _ _ _ (by rw [later_cart 1 h]; exact hm) ha

/-- A fetch reads the byte at `pc` after its machine cycle and moves `pc` on (R318). -/
theorem fetch8_ok {s : State} (h : s.accessSafe s.cpu.pc) :
    fetch8 s = .ok ((s.later 1).peek s.cpu.pc) (((s.later 1).loaded s.cpu.pc).withCpu s.cpu.afterFetch) := by
  unfold fetch8
  simp only [look_bind]
  rw [bind_of_ok (memRead_ok h)]
  simp only [updateCpu_bind, loaded_cpu, later_cpu 1 h.1]
  rfl

/-! ### Addresses that read the same through the ticks -/

theorem accessSafe_of_steady {s : State} {a : Addr} (hs : s.chargeSafe) (h : s.steady a) : s.accessSafe a :=
  ⟨hs, fun hm ha => by have := h.2.2 ha; simp [hm] at this⟩

theorem peek_later {s : State} {a : Addr} (n : Nat) (hs : s.chargeSafe) (h : s.steady a) :
    (s.later n).peek a = s.peek a := by
  have ht := later_ticked n hs
  refine peek_congr h.1 (fun _ => ?_) ht.cart ht.ie ht.params
  by_cases ho : region a = .oam
  · rw [(ht.idleDma (h.2.1 ho)).1]
  · exact ht.memory a ho

theorem steady_later {s : State} {a : Addr} (n : Nat) (hs : s.chargeSafe) (h : s.steady a) : (s.later n).steady a := by
  have ht := later_ticked n hs
  refine ⟨h.1, fun ho => ?_, fun he => ?_⟩
  · rw [(ht.idleDma (h.2.1 ho)).2]; exact h.2.1 ho
  · rw [ht.cart]; exact h.2.2 he

/-- A fetch from a steady address reads the byte that stands there now. -/
theorem fetch8_steady {s : State} {c : Cpu} (hs : s.chargeSafe) (h : s.steady c.pc) :
    fetch8 (s.withCpu c) = .ok (s.peek c.pc) ((s.later 1).withCpu c.afterFetch) := by
  have h' : (s.withCpu c).accessSafe (s.withCpu c).cpu.pc := accessSafe_of_steady (s := s) hs h
  rw [fetch8_ok h']
  simp only [withCpu_cpu, later_withCpu, peek_withCpu, withCpu_withCpu, peek_later 1 hs h,
    loaded_of_not_io h.1]

/-! ### The stack (R11) -/

theorem push8_ok {s : State} (v : Byte) (h : s.accessSafe (s.cpu.sp - 1)) :
    push8 v s = .ok ()
      (((s.later 1).stored (s.cpu.sp - 1) v).withCpu { s.cpu with sp := s.cpu.sp - 1 }) := by
  unfold push8
  simp only [updateCpu_bind, look_bind]
  have hw := memWrite_ok (s := s.withCpu { s.cpu with sp := s.cpu.sp - 1 }) v (accessSafe_of (s := s) h.1 rfl h)
  rwa [later_withCpu, stored_withCpu] at hw

/-- A push of a word (R11). -/
theorem push16_ok {s : State} (v : BitVec 16) (h : s.pushSafe) : push16 v s = .ok () (s.pushed 0 v) := by
  obtain ⟨h1, h2, h3⟩ := h
  unfold push16
  rw [bind_of_ok (push8_ok _ h1)]
  have hsp : s.cpu.sp - 1 - 1 = s.cpu.sp - 2 := by
    rw [BitVec.sub_sub]; rfl
  have hs1 : (s.later 1).chargeSafe := later_chargeSafe 1 h1.1
  have hst : (s.later 1).storeSafe (s.cpu.sp - 1) := storeSafe_of (later_cart 1 h1.1) h2
  rw [push8_ok]
  · simp only [withCpu_cpu, hsp, later_withCpu, stored_withCpu, withCpu_withCpu]
    rfl
  · show State.accessSafe _ (s.cpu.sp - 1 - 1)
    rw [hsp]
    exact stored_accessSafe _ hs1 hst (later_accessSafe 1 h3)

/-- Pushing after a machine cycle is pushing with one more idle cycle. -/
theorem later_pushed {s : State} (n idle : Nat) (v : BitVec 16) (h : s.chargeSafe) :
    (s.later n).pushed idle v = s.pushed (n + idle) v := by
  unfold State.pushed
  simp only [later_cpu n h, later_later n (idle + 1) h, Nat.add_assoc]

theorem later_pushSafe {s : State} (n : Nat) (h : s.pushSafe) : (s.later n).pushSafe := by
  obtain ⟨h1, h2, h3⟩ := h
  unfold State.pushSafe
  rw [later_cpu n h1.1]
  exact ⟨later_accessSafe n h1, storeSafe_of (later_cart n h1.1) h2, later_accessSafe n h3⟩

theorem pop8_ok {s : State} (h : s.accessSafe s.cpu.sp) :
    pop8 s = .ok ((s.later 1).peek s.cpu.sp)
      (((s.later 1).loaded s.cpu.sp).withCpu { s.cpu with sp := s.cpu.sp + 1 }) := by
  unfold pop8
  simp only [look_bind]
  rw [bind_of_ok (memRead_ok h)]
  simp [later_cpu 1 h.1]

/-- A pop of a word (R11). -/
theorem pop16_ok {s : State} (h : s.popSafe) : pop16 s = .ok s.poppedWord s.popped := by
  obtain ⟨h1, h2⟩ := h
  unfold pop16
  rw [bind_of_ok (pop8_ok h1)]
  have hsp : s.cpu.sp + 1 + 1 = s.cpu.sp + 2 := by
    rw [BitVec.add_assoc]; rfl
  rw [bind_of_ok (pop8_ok _)]
  · simp only [withCpu_cpu, hsp, later_withCpu, loaded_withCpu, peek_withCpu, withCpu_withCpu]
    rfl
  · exact accessSafe_of (s := s.later 1) (loaded_chargeSafe _ (later_chargeSafe 1 h1.1)) (by simp)
      (later_accessSafe 1 h2)

theorem later_popSafe {s : State} (n : Nat) (h : s.popSafe) : (s.later n).popSafe := by
  unfold State.popSafe
  rw [later_cpu n h.1.1]
  exact ⟨later_accessSafe n h.1, later_accessSafe n h.2⟩

theorem popped_chargeSafe {s : State} (h : s.popSafe) : s.popped.chargeSafe := by
  unfold State.popped
  exact loaded_chargeSafe _ (later_chargeSafe 1 (loaded_chargeSafe _ (later_chargeSafe 1 h.1.1)))

end Sys2Proof.Machine
end

