-- ==== Sys2Proof/Laws/Forms.lean ====
section
/-! SUPPORT. The meaning of an instruction by its form: one lemma through which a proof about instructions of one shape
reaches all of them. -/

namespace Sys2Proof.Machine

/-- The operation of a place's form, register or memory. -/
def Place.op (x : Place) (onReg : Reg8 → Op Unit) (onMem : Op Unit) : Op Unit :=
  match x with
  | .reg r => onReg r
  | .memHl => onMem

/-- The operation each form runs. -/
def formOp : Form → Op Unit
  | .nop => nopOp
  | .halt => haltOp
  | .stop => stopOp
  | .di => diOp
  | .ei => eiOp
  | .prefixCb => prefixOp
  | .illegal op => illegalOp op
  | .ldRegReg dst src => ldRegReg dst src
  | .ldRegImm dst n => ldRegImm dst n
  | .ldRegMem dst => ldRegMem dst
  | .ldMemReg src => ldMemReg src
  | .ldMemImm n => ldMemImm n
  | .loadA (.pair p) => ldAFromPtr p
  | .loadA (.abs nn) => ldAFromMem nn
  | .loadA .highC => ldAFromHighC
  | .loadA (.high n) => ldAFromHigh n
  | .storeA (.pair p) => ldPtrFromA p
  | .storeA (.abs nn) => ldMemFromA nn
  | .storeA .highC => ldHighCFromA
  | .storeA (.high n) => ldHighFromA n
  | .loadAStep k => ldAFromHlStep k
  | .storeAStep k => ldHlStepFromA k
  | .ldPairImm p nn => ldPairImm p nn
  | .ldMemSp nn => ldMemSp nn
  | .ldSpHl => ldSpFromHl
  | .ldHlSp e => ldHlSpImm e
  | .push p => pushPair p
  | .pop p => popPair p
  | .alu op (.reg r) => aluReg op r
  | .alu op .memHl => aluMem op
  | .alu op (.imm n) => aluImm op n
  | .inc8 x => x.op incReg incMem
  | .dec8 x => x.op decReg decMem
  | .daa => daaOp
  | .cpl => cplOp
  | .scf => scfOp
  | .ccf => ccfOp
  | .addHl p => addHlPair p
  | .incPair p => incPair p
  | .decPair p => decPair p
  | .addSp e => addSpImm e
  | .accRot op => accRotate op
  | .rot op x => x.op (rotReg op) (rotMem op)
  | .bit b x => x.op (bitReg b) (bitMem b)
  | .res b x => x.op (resReg b) (resMem b)
  | .set b x => x.op (setReg b) (setMem b)
  | .jp nn => jpOp nn
  | .jpHl => jpHlOp
  | .jpCond cc nn => jpCondOp cc nn
  | .jr e => jrOp e
  | .jrCond cc e => jrCondOp cc e
  | .call nn => callOp nn
  | .callCond cc nn => callCondOp cc nn
  | .ret => retOp
  | .retCond cc => retCondOp cc
  | .reti => retiOp
  | .rst y => rstOp y

/-- Every instruction's meaning is its form's operation. -/
theorem exec_form (i : Instr) (s : State) : exec i s = answer (formOp i.form) s := by
  cases i <;> rfl

end Sys2Proof.Machine
end

