-- ==== Sys2Proof/Laws/Meanings.lean ====
section
/-! SUPPORT. What the shared operations of the instructions' meanings answer where their accesses are safe. -/

namespace Sys2Proof.Machine

/-- An instruction's answer from its form's operation. -/
theorem exec_of_form {i : Instr} {f : Form} {s t : State} (hi : i.form = f) (h : formOp f s = .ok () t) :
    exec i s = .next t := by
  rw [exec_form, hi]
  exact answer_of_ok h

theorem exec_error_of_form {i : Instr} {f : Form} {s t : State} {r : Raise} (hi : i.form = f)
    (h : formOp f s = .error r t) : exec i s = .fault (r.keep t) := by
  rw [exec_form, hi]
  exact answer_of_error h

/-! ### Loads and stores -/

theorem ldRegMem_ok {s : State} (r : Reg8) (h : s.accessSafe s.cpu.hl) :
    ldRegMem r s = .ok ()
      (((s.later 1).loaded s.cpu.hl).withCpu (s.cpu.setReg8 r ((s.later 1).peek s.cpu.hl))) := by
  unfold ldRegMem
  simp only [look_bind]
  rw [bind_of_ok (memRead_ok h)]
  simp only [updateCpu_run, loaded_cpu, later_cpu 1 h.1]

theorem loadA_ok {s : State} {a : Addr} (h : s.accessSafe a) :
    loadA a s = .ok () (((s.later 1).loaded a).withCpu { s.cpu with a := (s.later 1).peek a }) := by
  unfold loadA
  rw [bind_of_ok (memRead_ok h)]
  simp only [updateCpu_run, loaded_cpu, later_cpu 1 h.1]

theorem storeA_ok {s : State} {a : Addr} (h : s.accessSafe a) :
    storeA a s = .ok () ((s.later 1).stored a s.cpu.a) := by
  unfold storeA
  simp only [look_bind]
  exact memWrite_ok _ h

/-- The high-page address (R170), as a concatenation. -/
theorem highPage_eq (n : Byte) : highPage n = 0xFF#8 ++ n := by
  unfold highPage zext16
  revert n
  decide

/-! ### Arithmetic on A -/

theorem alu_ok {s : State} (op : AluOp) {x : Source} (h : x.safe s) :
    formOp (.alu op x) s = .ok () ((x.read s).withCpu (s.cpu.alu op (x.value s))) := by
  cases x with
  | reg r => rfl
  | imm n => rfl
  | memHl =>
    have h' : s.accessSafe s.cpu.hl := h
    simp only [formOp, aluMem, look_bind]
    rw [bind_of_ok (memRead_ok h')]
    simp only [updateCpu_run, loaded_cpu, later_cpu 1 h'.1]
    rfl

/-! ### Reading and writing back one place -/

/-- The state between the read and the write of a read-modify-write of memory at HL. -/
theorem rmw_cpu {s : State} (h : s.accessSafe s.cpu.hl) :
    (((s.later 1).loaded s.cpu.hl).later 1).cpu = s.cpu := by
  rw [later_cpu 1 (loaded_chargeSafe _ (later_chargeSafe 1 h.1)), loaded_cpu, later_cpu 1 h.1]

/-- A byte read from memory at HL, changed and written back a machine cycle later. -/
theorem rmw_ok {s : State} (v : Byte) (h : s.accessSafe s.cpu.hl) :
    memWrite s.cpu.hl v ((s.later 1).loaded s.cpu.hl) =
      .ok () ((((s.later 1).loaded s.cpu.hl).later 1).stored s.cpu.hl v) :=
  memWrite_ok _ (accessSafe_of (s := s.later 1) (loaded_chargeSafe _ (later_chargeSafe 1 h.1)) (by simp)
    (later_accessSafe 1 h))

/-- A place's form whose register operation writes `f` of the operand and changes the CPU by `g`, and whose memory
operation does so through memory. -/
theorem place_ok {s : State} {x : Place} (h : x.safe s) {onReg : Reg8 → Op Unit} {onMem : Op Unit} (f : Byte → Byte)
    (g : Byte → Cpu → Cpu)
    (hr : ∀ r, onReg r s = .ok () (s.withCpu ((g (s.cpu.reg8 r) s.cpu).setReg8 r (f (s.cpu.reg8 r)))))
    (hm : s.accessSafe s.cpu.hl → onMem s = .ok ()
      (((((s.later 1).loaded s.cpu.hl).later 1).stored s.cpu.hl (f ((s.later 1).peek s.cpu.hl))).withCpu
        (g ((s.later 1).peek s.cpu.hl) s.cpu))) :
    x.op onReg onMem s = .ok () (x.written s (g (x.value s) s.cpu) (f (x.value s))) := by
  cases x with
  | reg r => exact hr r
  | memHl => exact hm h

theorem inc8_ok {s : State} {x : Place} (h : x.safe s) :
    formOp (.inc8 x) s = .ok ()
      (x.written s (s.cpu.setFlags (inc8 (x.value s) s.cpu.flags).2) (inc8 (x.value s) s.cpu.flags).1) := by
  refine place_ok h (fun v => (inc8 v s.cpu.flags).1) (fun v c => c.setFlags (inc8 v s.cpu.flags).2)
    (fun r => by rw [← Cpu.setFlags_setReg8]; rfl) fun hm => ?_
  unfold incMem
  simp only [look_bind]
  rw [bind_of_ok (memRead_ok hm)]
  simp only [look_bind]
  rw [bind_of_ok (rmw_ok _ hm)]
  simp only [updateCpu_run, stored_cpu, rmw_cpu hm, loaded_cpu, later_cpu 1 hm.1]

theorem dec8_ok {s : State} {x : Place} (h : x.safe s) :
    formOp (.dec8 x) s = .ok ()
      (x.written s (s.cpu.setFlags (dec8 (x.value s) s.cpu.flags).2) (dec8 (x.value s) s.cpu.flags).1) := by
  refine place_ok h (fun v => (dec8 v s.cpu.flags).1) (fun v c => c.setFlags (dec8 v s.cpu.flags).2)
    (fun r => by rw [← Cpu.setFlags_setReg8]; rfl) fun hm => ?_
  unfold decMem
  simp only [look_bind]
  rw [bind_of_ok (memRead_ok hm)]
  simp only [look_bind]
  rw [bind_of_ok (rmw_ok _ hm)]
  simp only [updateCpu_run, stored_cpu, rmw_cpu hm, loaded_cpu, later_cpu 1 hm.1]

theorem rot_ok {s : State} (op : RotOp) {x : Place} (h : x.safe s) :
    formOp (.rot op x) s = .ok ()
      (x.written s (s.cpu.setFlags (rotFlags8 op (x.value s) s.cpu.flags).2)
        (rotFlags8 op (x.value s) s.cpu.flags).1) := by
  refine place_ok h (fun v => (rotFlags8 op v s.cpu.flags).1) (fun v c => c.setFlags (rotFlags8 op v s.cpu.flags).2)
    (fun r => by rw [← Cpu.setFlags_setReg8]; rfl) fun hm => ?_
  unfold rotMem
  simp only [look_bind]
  rw [bind_of_ok (memRead_ok hm)]
  simp only [look_bind]
  rw [bind_of_ok (rmw_ok _ hm)]
  simp only [updateCpu_run, stored_cpu, rmw_cpu hm, loaded_cpu, later_cpu 1 hm.1]

theorem res_ok {s : State} (b : Fin 8) {x : Place} (h : x.safe s) :
    formOp (.res b x) s = .ok () (x.written s s.cpu (resBit b (x.value s))) := by
  refine place_ok h (fun v => resBit b v) (fun _ c => c) (fun _ => rfl) fun hm => ?_
  unfold resMem
  simp only [look_bind]
  rw [bind_of_ok (memRead_ok hm), rmw_ok _ hm, withCpu_of_cpu (by rw [stored_cpu, rmw_cpu hm])]

theorem set_ok {s : State} (b : Fin 8) {x : Place} (h : x.safe s) :
    formOp (.set b x) s = .ok () (x.written s s.cpu (setBit b (x.value s))) := by
  refine place_ok h (fun v => setBit b v) (fun _ c => c) (fun _ => rfl) fun hm => ?_
  unfold setMem
  simp only [look_bind]
  rw [bind_of_ok (memRead_ok hm), rmw_ok _ hm, withCpu_of_cpu (by rw [stored_cpu, rmw_cpu hm])]

theorem bit_ok {s : State} (b : Fin 8) {x : Place} (h : x.safe s) :
    formOp (.bit b x) s =
      .ok () ((x.read s).withCpu (s.cpu.setFlags (bitFlags b (x.value s) s.cpu.flags))) := by
  cases x with
  | reg r => rfl
  | memHl =>
    have h' : s.accessSafe s.cpu.hl := h
    simp only [formOp, Place.op, bitMem, look_bind]
    rw [bind_of_ok (memRead_ok h')]
    simp only [updateCpu_run, loaded_cpu, later_cpu 1 h'.1]
    rfl

/-! ### Control transfer -/

theorem jpOp_ok {s : State} (nn : BitVec 16) (h : s.chargeSafe) :
    jpOp nn s = .ok () ((s.later 1).withCpu { s.cpu with pc := nn }) := by
  unfold jpOp
  rw [bind_of_ok (internal_ok h)]
  simp only [jumpTo, updateCpu_run, later_cpu 1 h]

theorem jrOp_ok {s : State} (e : Byte) (h : s.chargeSafe) :
    jrOp e s = .ok () ((s.later 1).withCpu { s.cpu with pc := s.cpu.pc + sext16 e }) := by
  unfold jrOp
  rw [bind_of_ok (internal_ok h)]
  simp only [updateCpu_run, later_cpu 1 h]

theorem whenCond_true {s : State} {cc : Cond} (op : Op Unit) (h : s.cpu.cond cc = true) : whenCond cc op s = op s := by
  simp only [whenCond, look_bind, h, if_true]

theorem whenCond_false {s : State} {cc : Cond} (op : Op Unit) (h : s.cpu.cond cc = false) :
    whenCond cc op s = .ok () s := by
  simp only [whenCond, look_bind, h, if_false, Bool.false_eq_true]
  rfl

theorem callOp_ok {s : State} (target : Addr) (h : s.pushSafe) :
    callOp target s = .ok ()
      ((s.pushed 1 s.cpu.pc).withCpu { s.cpu with sp := s.cpu.sp - 2, pc := target }) := by
  unfold callOp
  rw [bind_of_ok (internal_ok h.1.1)]
  simp only [look_bind]
  rw [bind_of_ok (push16_ok _ (later_pushSafe 1 h)), later_cpu 1 h.1.1, later_pushed 1 0 _ h.1.1]
  rfl

theorem returnOp_ok {s : State} (h : s.popSafe) :
    returnOp s = .ok () ((s.popped.later 1).withCpu { s.popped.cpu with pc := s.poppedWord }) := by
  unfold returnOp
  have hp := popped_chargeSafe h
  rw [bind_of_ok (pop16_ok h), bind_of_ok (internal_ok hp)]
  simp only [jumpTo, updateCpu_run, later_cpu 1 hp]

end Sys2Proof.Machine
end

