-- ==== Sys2Proof/Laws/Relations.lean ====
section
/-! SUPPORT. Relations that every operation of the machine keeps because its primitives do: a CPU update, a tick, an
uncharged read, an uncharged write. One lemma carries a relation through every instruction, and one through the
phases of a step, whether they complete or raise. -/

namespace Sys2Proof.Machine

/-- However an operation ends, `R` holds between the state before and the state it leaves, and where it raises, `P` holds of
what it raises and of the state there. -/
def Op.Sat {α : Type} (R : State → State → Prop) (P : Raise → State → Prop) (op : Op α) : Prop :=
  ∀ s, (∀ a t, op s = .ok a t → R s t) ∧ (∀ r t, op s = .error r t → R s t ∧ P r t)

/-- The eleven unused opcodes (R297). -/
def unusedOpcodes : List Byte := [0xD3, 0xDB, 0xDD, 0xE3, 0xE4, 0xEB, 0xEC, 0xED, 0xF4, 0xFC, 0xFD]

/-- Whether a form is one of an unused opcode's, if it is an unused opcode's at all. -/
def illegalIsUnused : Form → Bool
  | .illegal op => decide (op ∈ unusedOpcodes)
  | _ => true

/-- An instruction of the form of an unused opcode is one of the eleven. -/
theorem form_illegal {i : Instr} {op : Byte} (h : i.form = .illegal op) : op ∈ unusedOpcodes := by
  have hi : illegalIsUnused i.form = true := by cases i <;> rfl
  rw [h] at hi
  simpa [illegalIsUnused] using hi

/-- A relation kept by everything an instruction is made of, and what holds wherever one raises. -/
structure Primitive (R : State → State → Prop) (P : Raise → State → Prop) : Prop where
  refl : ∀ s, R s s
  trans : ∀ s t u, R s t → R t u → R s u
  cpu : ∀ s c, R s (s.withCpu c)
  tick : Op.Sat R P tick
  read : ∀ a, Op.Sat R P (busRead a)
  write : ∀ a v, Op.Sat R P (busWrite a v)
  stop : ∀ s, s.params.stopOutcome = .terminal → P (.stopped s.cpu.pc) s
  illegal : ∀ s op, s.params.illegalOutcome = .fault → op ∈ unusedOpcodes → P (.illegalOpcode op s.cpu.opAddr) s

namespace Op.Sat

variable {R : State → State → Prop} {P : Raise → State → Prop}

theorem bind (trans : ∀ s t u, R s t → R t u → R s u) {α β : Type} {x : Op α} {f : α → Op β} (hx : Op.Sat R P x)
    (hf : ∀ a, Op.Sat R P (f a)) : Op.Sat R P (x >>= f) := by
  intro s
  cases e : x s with
  | ok a t =>
    have ht := (hx s).1 a t e
    rw [bind_of_ok e]
    exact ⟨fun b u h => trans _ _ _ ht ((hf a t).1 b u h),
      fun r u h => ⟨trans _ _ _ ht ((hf a t).2 r u h).1, ((hf a t).2 r u h).2⟩⟩
  | error r t =>
    rw [bind_of_error e]
    exact ⟨fun _ _ h => (by cases h), fun _ _ h => by cases h; exact (hx s).2 r t e⟩

/-- An operation that always completes. -/
theorem of_ok {α : Type} {op : Op α} {a : State → α} {f : State → State} (e : ∀ s, op s = .ok (a s) (f s))
    (h : ∀ s, R s (f s)) : Op.Sat R P op := by
  intro s
  rw [e]
  exact ⟨fun _ _ h' => (by cases h'; exact h s), fun _ _ h' => (by cases h')⟩

end Op.Sat

/-- A tick keeps what its parts keep. -/
theorem tick_sat {R : State → State → Prop} {P : Raise → State → Prop} (trans : ∀ s t u, R s t → R t u → R s u)
    (timer : ∀ s, R s s.timerTick) (dma : Op.Sat R P dmaTick) (display : ∀ s, R s s.displayTick) : Op.Sat R P tick :=
  .bind trans (.of_ok (fun _ => rfl) timer) fun _ => .bind trans dma fun _ => .of_ok (fun _ => rfl) display

/-- The DMA machine's tick keeps what its bus accesses and any update of its own registers keep. -/
theorem dmaTick_sat {R : State → State → Prop} {P : Raise → State → Prop} (refl : ∀ s, R s s)
    (trans : ∀ s t u, R s t → R t u → R s u) (dma : ∀ (s : State) (d : Dma), R s { s with dma := d })
    (read : ∀ a, Op.Sat R P (busRead a)) (write : ∀ a v, Op.Sat R P (busWrite a v)) : Op.Sat R P dmaTick := by
  have hlook : ∀ {α : Type} (f : State → α), Op.Sat R P (look f) := fun f => .of_ok (fun _ => rfl) refl
  have hcopy : Op.Sat R P dmaCopy :=
    .bind trans (hlook _) fun _ => .bind trans (hlook _) fun _ => .bind trans (read _) fun _ =>
      .bind trans (write _ _) fun _ => .of_ok (fun _ => rfl) fun s => dma s _
  intro s
  by_cases h1 : s.dma.active = false
  · rw [show dmaTick s = .ok () s by simp [dmaTick, h1]]
    exact ⟨fun _ _ h => (by cases h; exact refl s), fun _ _ h => (by cases h)⟩
  · by_cases h2 : 0 < s.dma.wait
    · rw [show dmaTick s = .ok () { s with dma := { s.dma with wait := s.dma.wait - 1 } } by simp [dmaTick, h1, h2]]
      exact ⟨fun _ _ h => (by cases h; exact dma s _), fun _ _ h => (by cases h)⟩
    · by_cases h3 : 0xFE9F < s.dma.dst.toNat
      · rw [show dmaTick s = .ok () { s with dma := { s.dma with active := false } } by simp [dmaTick, h1, h2, h3]]
        exact ⟨fun _ _ h => (by cases h; exact dma s _), fun _ _ h => (by cases h)⟩
      · rw [show dmaTick s = dmaCopy s by simp [dmaTick, h1, h2, h3]]
        exact hcopy s

namespace Primitive

variable {R : State → State → Prop} {P : Raise → State → Prop}

theorem bind (h : Primitive R P) {α β : Type} {x : Op α} {f : α → Op β} (hx : Op.Sat R P x)
    (hf : ∀ a, Op.Sat R P (f a)) : Op.Sat R P (x >>= f) := Op.Sat.bind h.trans hx hf

theorem pure (h : Primitive R P) {α : Type} (a : α) : Op.Sat R P (Pure.pure a : Op α) := .of_ok (fun _ => rfl) h.refl
theorem look (h : Primitive R P) {α : Type} (f : State → α) : Op.Sat R P (look f) := .of_ok (fun _ => rfl) h.refl
theorem updateCpu (h : Primitive R P) (f : Cpu → Cpu) : Op.Sat R P (updateCpu f) :=
  .of_ok (fun _ => rfl) fun s => h.cpu s (f s.cpu)

theorem ticks (h : Primitive R P) (n : Nat) : Op.Sat R P (ticks n) := by
  induction n with
  | zero => exact h.pure ()
  | succ n ih => exact h.bind h.tick fun _ => ih

theorem charge (h : Primitive R P) (m : Nat) : Op.Sat R P (charge m) := h.ticks _
theorem internal (h : Primitive R P) : Op.Sat R P internal := h.charge 1

theorem memRead (h : Primitive R P) (a : Addr) : Op.Sat R P (memRead a) := h.bind (h.charge 1) fun _ => h.read a
theorem memWrite (h : Primitive R P) (a : Addr) (v : Byte) : Op.Sat R P (memWrite a v) :=
  h.bind (h.charge 1) fun _ => h.write a v

theorem fetch8 (h : Primitive R P) : Op.Sat R P fetch8 :=
  h.bind (h.look _) fun _ => h.bind (h.memRead _) fun _ => h.bind (h.updateCpu _) fun _ => h.pure _

theorem fetch16 (h : Primitive R P) : Op.Sat R P fetch16 :=
  h.bind h.fetch8 fun _ => h.bind h.fetch8 fun _ => h.pure _

theorem push8 (h : Primitive R P) (v : Byte) : Op.Sat R P (push8 v) :=
  h.bind (h.updateCpu _) fun _ => h.bind (h.look _) fun _ => h.memWrite _ _

theorem push16 (h : Primitive R P) (v : BitVec 16) : Op.Sat R P (push16 v) := h.bind (h.push8 _) fun _ => h.push8 _

theorem pop8 (h : Primitive R P) : Op.Sat R P pop8 :=
  h.bind (h.look _) fun _ => h.bind (h.memRead _) fun _ => h.bind (h.updateCpu _) fun _ => h.pure _

theorem pop16 (h : Primitive R P) : Op.Sat R P pop16 := h.bind h.pop8 fun _ => h.bind h.pop8 fun _ => h.pure _

theorem returnOp (h : Primitive R P) : Op.Sat R P returnOp :=
  h.bind h.pop16 fun _ => h.bind h.internal fun _ => h.updateCpu _

theorem whenCond (h : Primitive R P) (cc : Cond) {op : Op Unit} (hop : Op.Sat R P op) : Op.Sat R P (whenCond cc op) :=
  h.bind (h.look _) fun b => by cases b <;> [exact h.pure (); exact hop]

theorem loadA (h : Primitive R P) (a : Addr) : Op.Sat R P (loadA a) := h.bind (h.memRead _) fun _ => h.updateCpu _

theorem storeA (h : Primitive R P) (a : Addr) : Op.Sat R P (storeA a) := h.bind (h.look _) fun _ => h.memWrite _ _

theorem jpOp (h : Primitive R P) (nn : BitVec 16) : Op.Sat R P (jpOp nn) := h.bind h.internal fun _ => h.updateCpu _

theorem jrOp (h : Primitive R P) (e : Byte) : Op.Sat R P (jrOp e) := h.bind h.internal fun _ => h.updateCpu _

theorem callOp (h : Primitive R P) (t : Addr) : Op.Sat R P (callOp t) :=
  h.bind h.internal fun _ => h.bind (h.look _) fun _ => h.bind (h.push16 _) fun _ => h.updateCpu _

/-- Memory at HL read, changed and written back. -/
theorem rmw (h : Primitive R P) (f : Byte → Flags → Byte) (g : Byte → Flags → Cpu → Cpu) :
    Op.Sat R P (Machine.look (fun s => s.cpu.hl) >>= fun hl => Machine.memRead hl >>= fun v =>
      Machine.look (fun s => s.cpu.flags) >>= fun x => Machine.memWrite hl (f v x) >>= fun _ =>
        Machine.updateCpu (g v x)) :=
  h.bind (h.look _) fun _ => h.bind (h.memRead _) fun _ => h.bind (h.look _) fun _ => h.bind (h.memWrite _ _) fun _ =>
    h.updateCpu _

theorem readHl (h : Primitive R P) (f : Byte → Cpu → Cpu) :
    Op.Sat R P (Machine.look (fun s => s.cpu.hl) >>= fun hl => Machine.memRead hl >>= fun v =>
      Machine.updateCpu (f v)) :=
  h.bind (h.look _) fun _ => h.bind (h.memRead _) fun _ => h.updateCpu _

theorem bitRmw (h : Primitive R P) (f : Byte → Byte) :
    Op.Sat R P (Machine.look (fun s => s.cpu.hl) >>= fun hl => Machine.memRead hl >>= fun v =>
      Machine.memWrite hl (f v)) :=
  h.bind (h.look _) fun _ => h.bind (h.memRead _) fun _ => h.memWrite _ _

/-- Every instruction keeps the relation, whether it completes or raises. -/
theorem formOp (h : Primitive R P) (f : Form) (hf : ∀ op, f = .illegal op → op ∈ unusedOpcodes) :
    Op.Sat R P (formOp f) := by
  cases f with
  | nop => exact h.pure ()
  | halt => show Op.Sat R P haltOp; exact h.updateCpu _
  | stop =>
    show Op.Sat R P stopOp
    refine h.bind (h.updateCpu _) fun _ s => ?_
    simp only [look_bind]
    cases hs : s.params.stopOutcome
    · exact ⟨fun _ _ e => (by cases e), fun _ _ e => (by cases e; exact ⟨h.refl s, h.stop s hs⟩)⟩
    · exact h.pure () s
  | di => show Op.Sat R P diOp; exact h.updateCpu _
  | ei => show Op.Sat R P eiOp; exact h.updateCpu _
  | prefixCb => show Op.Sat R P prefixOp; exact h.updateCpu _
  | illegal op =>
    show Op.Sat R P (illegalOp op)
    intro s
    simp only [illegalOp, look_bind]
    cases hs : s.params.illegalOutcome
    · exact ⟨fun _ _ e => (by cases e), fun _ _ e => (by cases e; exact ⟨h.refl s, h.illegal s op hs (hf op rfl)⟩)⟩
    · exact h.pure () s
  | ldRegReg dst src => show Op.Sat R P (ldRegReg dst src); exact h.updateCpu _
  | ldRegImm dst n => show Op.Sat R P (ldRegImm dst n); exact h.updateCpu _
  | ldRegMem dst => exact h.readHl _
  | ldMemReg src => exact h.bind (h.look _) fun _ => h.memWrite _ _
  | ldMemImm n => exact h.bind (h.look _) fun _ => h.memWrite _ _
  | loadA x =>
    cases x <;>
      first
      | exact h.bind (h.look _) fun _ => h.loadA _
      | exact h.loadA _
  | storeA x =>
    cases x <;>
      first
      | exact h.bind (h.look _) fun _ => h.storeA _
      | exact h.storeA _
  | loadAStep k => exact h.bind (h.look _) fun _ => h.bind (h.loadA _) fun _ => h.updateCpu _
  | storeAStep k => exact h.bind (h.look _) fun _ => h.bind (h.storeA _) fun _ => h.updateCpu _
  | ldPairImm p nn => show Op.Sat R P (ldPairImm p nn); exact h.updateCpu _
  | ldMemSp nn => exact h.bind (h.look _) fun _ => h.bind (h.memWrite _ _) fun _ => h.memWrite _ _
  | ldSpHl => exact h.bind h.internal fun _ => h.updateCpu _
  | ldHlSp e => exact h.bind h.internal fun _ => h.updateCpu _
  | push p => exact h.bind h.internal fun _ => h.bind (h.look _) fun _ => h.push16 _
  | pop p => exact h.bind h.pop16 fun _ => h.updateCpu _
  | alu op x =>
    cases x with
    | reg r => show Op.Sat R P (aluReg op r); exact h.updateCpu _
    | memHl => exact h.readHl _
    | imm n => show Op.Sat R P (aluImm op n); exact h.updateCpu _
  | inc8 x =>
    cases x with
    | reg r => show Op.Sat R P (incReg r); exact h.updateCpu _
    | memHl => exact h.rmw (fun v f => (Machine.inc8 v f).1) _
  | dec8 x =>
    cases x with
    | reg r => show Op.Sat R P (decReg r); exact h.updateCpu _
    | memHl => exact h.rmw (fun v f => (Machine.dec8 v f).1) _
  | daa => show Op.Sat R P daaOp; exact h.updateCpu _
  | cpl => show Op.Sat R P cplOp; exact h.updateCpu _
  | scf => show Op.Sat R P scfOp; exact h.updateCpu _
  | ccf => show Op.Sat R P ccfOp; exact h.updateCpu _
  | addHl p => exact h.bind h.internal fun _ => h.updateCpu _
  | incPair p => exact h.bind h.internal fun _ => h.updateCpu _
  | decPair p => exact h.bind h.internal fun _ => h.updateCpu _
  | addSp e => exact h.bind h.internal fun _ => h.bind h.internal fun _ => h.updateCpu _
  | accRot op => show Op.Sat R P (accRotate op); exact h.updateCpu _
  | rot op x =>
    cases x with
    | reg r => show Op.Sat R P (rotReg op r); exact h.updateCpu _
    | memHl => exact h.rmw (fun v f => (rotFlags8 op v f).1) _
  | bit b x =>
    cases x with
    | reg r => show Op.Sat R P (bitReg b r); exact h.updateCpu _
    | memHl => exact h.readHl _
  | res b x =>
    cases x with
    | reg r => show Op.Sat R P (resReg b r); exact h.updateCpu _
    | memHl => exact h.bitRmw _
  | set b x =>
    cases x with
    | reg r => show Op.Sat R P (setReg b r); exact h.updateCpu _
    | memHl => exact h.bitRmw _
  | jp nn => exact h.jpOp nn
  | jpHl => show Op.Sat R P jpHlOp; exact h.updateCpu _
  | jpCond cc nn => exact h.whenCond cc (h.jpOp nn)
  | jr e => exact h.jrOp e
  | jrCond cc e => exact h.whenCond cc (h.jrOp e)
  | call nn => exact h.callOp nn
  | callCond cc nn => exact h.whenCond cc (h.callOp nn)
  | ret => exact h.returnOp
  | retCond cc => exact h.bind h.internal fun _ => h.whenCond cc h.returnOp
  | reti => exact h.bind h.returnOp fun _ => h.updateCpu _
  | rst y => exact h.callOp _

/-- An instruction that completes keeps the relation. -/
theorem exec (h : Primitive R P) {i : Instr} {s t : State} (e : exec i s = .next t) : R s t := by
  rw [exec_form, answer_next_iff] at e
  exact ((h.formOp i.form (fun _ => form_illegal)) s).1 () t e

/-- An instruction that raises keeps it up to the raise. -/
theorem exec_fault (h : Primitive R P) {i : Instr} {s : State} {f : Fault} (e : Machine.exec i s = .fault f) :
    ∃ r t, f = Raise.keep r t ∧ R s t ∧ P r t := by
  rw [exec_form] at e
  have hs := h.formOp i.form (fun _ => form_illegal) s
  cases hx : Machine.formOp i.form s with
  | ok a t => rw [answer_of_ok hx] at e; cases e
  | error r t =>
    rw [answer_of_error hx] at e
    cases e
    exact ⟨r, t, rfl, hs.2 r t hx⟩

/-- So does a dispatch, if its choice of a vector does. -/
theorem dispatch (h : Primitive R P) (vec : ∀ s ieSnap, R s (State.takeVector s ieSnap)) : Op.Sat R P dispatch :=
  h.bind (h.updateCpu _) fun _ => h.bind (h.charge 2) fun _ => h.bind (h.look _) fun _ => h.bind (h.push8 _) fun _ =>
    h.bind (h.look _) fun _ => h.bind (h.push8 _) fun _ =>
      h.bind (x := update _) (.of_ok (fun _ => rfl) fun s => vec s _) fun _ => h.charge 1

theorem fetchOpcode (h : Primitive R P) : Op.Sat R P fetchOpcode := h.bind (h.updateCpu _) fun _ => h.fetch8

theorem fetchImmediates (h : Primitive R P) (e : Entry) : Op.Sat R P (fetchImmediates e) := by
  cases e with
  | op i => exact h.pure i
  | skip1 i => exact h.pure i
  | imm8 f => exact h.bind h.fetch8 fun _ => h.pure _
  | imm16 f => exact h.bind h.fetch16 fun _ => h.pure _

/-- So do the phases of a step after the host's turn. -/
theorem cpuStepPhases (h : Primitive R P) (vec : ∀ s ieSnap, R s (State.takeVector s ieSnap)) :
    Op.Sat R P cpuStepPhases := by
  have hcheck : Op.Sat R P dispatchCheck := by
    intro s
    by_cases hd : s.dispatchDue = true
    · rw [show dispatchCheck s = Machine.dispatch s by simp [dispatchCheck, hd]]
      exact h.dispatch vec s
    · rw [show dispatchCheck s = .ok () s by simp [dispatchCheck, hd]]
      exact h.pure () s
  intro s
  unfold Machine.cpuStepPhases
  by_cases h1 : s.cpu.prefixedPending = true
  · simp only [h1, if_true]
    exact h.bind (x := prefixedPhase) (f := fun i => Pure.pure (some i))
      (h.bind (h.updateCpu _) fun _ => h.bind h.fetchOpcode fun _ => h.pure _) (fun _ => h.pure _) s
  · by_cases h2 : (s.cpu.halted && decide (s.pending = 0)) = true
    · simp only [h1, h2, if_true]
      exact h.bind (x := Machine.charge 1) (f := fun _ => Pure.pure none) (h.charge 1) (fun _ => h.pure _) s
    · simp only [h1, h2]
      exact h.bind (x := runningPhase) (f := fun i => Pure.pure (some i))
        (h.bind (h.updateCpu _) fun _ => h.bind hcheck fun _ => h.bind (h.updateCpu _) fun _ =>
          h.bind h.fetchOpcode fun _ => h.fetchImmediates _) (fun _ => h.pure _) s

/-- So does a step that goes on. -/
theorem step (h : Primitive R P) (vec : ∀ s ieSnap, R s (State.takeVector s ieSnap)) (turn : ∀ s, R s s.hostTurn)
    {s t : State} (e : step s = .next t) : R s t := by
  unfold Machine.step beginStep at e
  have hp := h.cpuStepPhases vec s.hostTurn
  cases hb : Machine.cpuStepPhases s.hostTurn with
  | ok x u =>
    rw [hb] at e
    have hu := h.trans _ _ _ (turn s) (hp.1 x u hb)
    cases x with
    | none => cases e; exact hu
    | some i => exact h.trans _ _ _ hu (h.exec e)
  | error r u => rw [hb] at e; cases e

/-- A step that ends the run keeps it up to the raise, and raises only what `P` allows. -/
theorem step_fault (h : Primitive R P) (vec : ∀ s ieSnap, R s (State.takeVector s ieSnap))
    (turn : ∀ s, R s s.hostTurn) {s : State} {f : Fault} (e : Machine.step s = .fault f) :
    ∃ r t, f = Raise.keep r t ∧ R s t ∧ P r t := by
  unfold Machine.step beginStep at e
  have hp := h.cpuStepPhases vec s.hostTurn
  cases hb : Machine.cpuStepPhases s.hostTurn with
  | ok x u =>
    rw [hb] at e
    have hu := h.trans _ _ _ (turn s) (hp.1 x u hb)
    cases x with
    | none => cases e
    | some i =>
      obtain ⟨r, t, hf, hr, hpr⟩ := h.exec_fault e
      exact ⟨r, t, hf, h.trans _ _ _ hu hr, hpr⟩
  | error r u =>
    rw [hb] at e
    cases e
    have := hp.2 r u hb
    exact ⟨r, u, rfl, h.trans _ _ _ (turn s) this.1, this.2⟩

end Primitive

end Sys2Proof.Machine
end

