-- ==== Sys2Proof/Laws/Cost.lean ====
section
/-! SUPPORT. How many ticks an operation that completes takes: a fixed number for each shared operation, adding up over
a sequence. -/

namespace Sys2Proof.Machine

/-- An operation that completes takes exactly `n` ticks. -/
def Op.Takes {α : Type} (n : Nat) (op : Op α) : Prop := ∀ s a t, op s = .ok a t → t.clk = s.clk + n

namespace Op.Takes

theorem bind {α β : Type} {n m : Nat} {x : Op α} {f : α → Op β} (hx : Op.Takes n x) (hf : ∀ a, Op.Takes m (f a)) :
    Op.Takes (n + m) (x >>= f) := by
  intro s b u h
  obtain ⟨a, t, hx', hf'⟩ := bind_ok_iff.mp h
  rw [hf a t b u hf', hx s a t hx', Nat.add_assoc]

theorem of_ok {α : Type} {op : Op α} {a : State → α} {f : State → State} (e : ∀ s, op s = .ok (a s) (f s))
    (h : ∀ s, (f s).clk = s.clk) : Op.Takes 0 op := by
  intro s b t h'
  rw [e] at h'
  cases h'
  exact h s

theorem pure {α : Type} (a : α) : Op.Takes 0 (Pure.pure a : Op α) := of_ok (fun _ => rfl) fun _ => rfl
theorem look {α : Type} (f : State → α) : Op.Takes 0 (look f) := of_ok (fun _ => rfl) fun _ => rfl
theorem updateCpu (f : Cpu → Cpu) : Op.Takes 0 (updateCpu f) := of_ok (fun _ => rfl) fun _ => rfl

/-- A relation the uncharged accesses keep: the clock stands. -/
theorem clk_of_sat {α : Type} {op : Op α} (h : Op.Sat (fun s t => t.clk = s.clk) (fun _ _ => True) op) : Op.Takes 0 op :=
  fun s a t e => (h s).1 a t e

theorem sat_busRead (a : Addr) : Op.Sat (fun s t => t.clk = s.clk) (fun _ _ => True) (busRead a) := by
  intro s
  by_cases h : s.cart.ramMissing = true → region a ≠ .extRam
  · rw [busRead_ok s a h]
    exact ⟨fun _ _ e => (by cases e; simp), fun _ _ e => (by cases e)⟩
  · simp only [ne_eq, Classical.not_imp, not_not] at h
    rw [busRead_error s a h.1 h.2]
    exact ⟨fun _ _ e => (by cases e), fun _ _ e => (by cases e; exact ⟨rfl, trivial⟩)⟩

theorem sat_busWrite (a : Addr) (v : Byte) : Op.Sat (fun s t => t.clk = s.clk) (fun _ _ => True) (busWrite a v) := by
  intro s
  by_cases h : s.cart.ramMissing = true → region a ≠ .extRam
  · rw [busWrite_ok s a v h]
    exact ⟨fun _ _ e => (by cases e; simp), fun _ _ e => (by cases e)⟩
  · simp only [ne_eq, Classical.not_imp, not_not] at h
    rw [busWrite_error s a v h.1 h.2]
    exact ⟨fun _ _ e => (by cases e), fun _ _ e => (by cases e; exact ⟨rfl, trivial⟩)⟩

theorem busRead (a : Addr) : Op.Takes 0 (busRead a) := clk_of_sat (sat_busRead a)
theorem busWrite (a : Addr) (v : Byte) : Op.Takes 0 (busWrite a v) := clk_of_sat (sat_busWrite a v)

/-- A tick is one tick (R71). -/
theorem tick : Op.Takes 1 tick := by
  have hd : Op.Takes 0 dmaTick :=
    clk_of_sat (dmaTick_sat (fun _ => rfl) (fun _ _ _ h h' => h'.trans h) (fun _ _ => rfl) sat_busRead sat_busWrite)
  have ht : Op.Takes 1 (update State.timerTick) := fun s a t h => by cases h; rfl
  have hdisp : Op.Takes 0 (update State.displayTick) := of_ok (fun _ => rfl) fun _ => rfl
  exact ht.bind fun _ => hd.bind fun _ => hdisp

theorem ticks (n : Nat) : Op.Takes n (ticks n) := by
  induction n with
  | zero => exact pure ()
  | succ n ih =>
    have := tick.bind (f := fun _ => Machine.ticks n) fun _ => ih
    rwa [Nat.add_comm] at this

theorem charge (m : Nat) : Op.Takes (4 * m) (charge m) := ticks _
theorem internal : Op.Takes 4 internal := charge 1
theorem memRead (a : Addr) : Op.Takes 4 (memRead a) := (charge 1).bind fun _ => busRead a
theorem memWrite (a : Addr) (v : Byte) : Op.Takes 4 (memWrite a v) := (charge 1).bind fun _ => busWrite a v

theorem fetch8 : Op.Takes 4 fetch8 :=
  (look _).bind (n := 0) (m := 4) fun _ => (memRead _).bind fun _ => (updateCpu _).bind fun _ => pure _

theorem fetch16 : Op.Takes 8 fetch16 := fetch8.bind fun _ => fetch8.bind fun _ => pure _

theorem push8 (v : Byte) : Op.Takes 4 (push8 v) :=
  (updateCpu _).bind (n := 0) (m := 4) fun _ => (look _).bind (n := 0) fun _ => memWrite _ _

theorem push16 (v : BitVec 16) : Op.Takes 8 (push16 v) := (push8 _).bind fun _ => push8 _

theorem pop8 : Op.Takes 4 pop8 :=
  (look _).bind (n := 0) (m := 4) fun _ => (memRead _).bind fun _ => (updateCpu _).bind fun _ => pure _

theorem pop16 : Op.Takes 8 pop16 := pop8.bind fun _ => pop8.bind fun _ => pure _

theorem returnOp : Op.Takes 12 returnOp := pop16.bind fun _ => internal.bind fun _ => updateCpu _

/-- A dispatch takes five machine cycles (R321). -/
theorem dispatch : Op.Takes 20 dispatch :=
  (updateCpu _).bind (n := 0) (m := 20) fun _ => (charge 2).bind fun _ => (look _).bind (n := 0) (m := 12) fun _ =>
    (push8 _).bind fun _ => (look _).bind (n := 0) (m := 8) fun _ => (push8 _).bind fun _ =>
      Op.Takes.bind (n := 0) (m := 4) (of_ok (fun _ => rfl) fun s => by
        unfold State.takeVector; split <;> rfl) fun _ => charge 1

end Op.Takes

end Sys2Proof.Machine
end

