-- ==== Sys2Proof/Laws/Decode.lean ====
section
/-! SUPPORT. The decoding tables: they are full, and each entry makes the instructions whose encoding starts with its
opcode. -/

namespace Sys2Proof

/-- The first table has an entry for every byte, so the default of `firstEntry` is never reached. -/
theorem firstEntry_total (op : Byte) : ((firstTable[op.toNat / 16]?).bind fun row => row[op.toNat % 16]?).isSome := by
  revert op
  decide

/-- So has the second table. -/
theorem secondEntry_total (op : Byte) : ((secondTable[op.toNat / 16]?).bind fun row => row[op.toNat % 16]?).isSome := by
  revert op
  decide

/-- What an entry at an opcode makes is encoded with that opcode and the immediates it was given. -/
def Entry.Encodes (op : Byte) : Entry → Prop
  | .op i => encode i = [op] ∧ i ≠ .stop
  | .skip1 i => i = .stop ∧ op = 0x10
  | .imm8 f => ∀ n, encode (f n) = [op, n] ∧ f n ≠ .stop
  | .imm16 f => ∀ nn, encode (f nn) = [op, loByte nn, hiByte nn] ∧ f nn ≠ .stop

theorem byte_cases (op : Byte) : ∃ n, n < 256 ∧ op = BitVec.ofNat 8 n := ⟨op.toNat, op.isLt, by simp⟩

theorem firstEntry_encodes (op : Byte) : (firstEntry op).Encodes op := by
  obtain ⟨n, hn, rfl⟩ := byte_cases op
  interval_cases n
  all_goals first
    | exact And.intro rfl rfl
    | exact And.intro rfl (fun h => nomatch h)
    | (show ∀ n : BitVec _, _ ∧ _; exact fun _ => And.intro rfl (fun h => nomatch h))

theorem secondEntry_encodes (op : Byte) : encode (secondEntry op) = [0xCB, op] ∧ secondEntry op ≠ .stop := by
  revert op
  decide

end Sys2Proof
end

