-- ==== Sys2Proof/Laws/Fifo.lean ====
section
/-! SUPPORT. What each operation of a ring buffer does to its size, its head and its slots. -/

namespace Sys2Proof.Machine

variable {α : Type}

@[simp] theorem Fifo.setSlot_size (r : Fifo α) (k : Nat) (x : α) : (r.setSlot k x).size = r.size := rfl
@[simp] theorem Fifo.setSlot_head (r : Fifo α) (k : Nat) (x : α) : (r.setSlot k x).head = r.head := rfl
@[simp] theorem Fifo.empty_size (r : Fifo α) : r.empty.size = 0 := rfl
@[simp] theorem Fifo.empty_head (r : Fifo α) : r.empty.head = 0 := rfl
@[simp] theorem Fifo.append_size (r : Fifo α) (x : α) : (r.append x).size = r.size + 1 := rfl
@[simp] theorem Fifo.append_head (r : Fifo α) (x : α) : (r.append x).head = r.head := rfl
@[simp] theorem Fifo.reset_size (x : α) : (Fifo.reset x).size = 0 := rfl

@[simp] theorem Fifo.pop_size (r : Fifo α) : r.pop.size = r.size - 1 := by
  unfold Fifo.pop
  split
  · omega
  · rfl

/-- A slot written reads back and the seven others are as before. -/
theorem Fifo.slot_setSlot (r : Fifo α) {j k : Nat} (x : α) (hj : j < 8) (hk : k < 8) :
    (r.setSlot k x).slot j = if j = k then x else r.slot j := by
  have he : r.index k = r.index j ↔ j = k := by
    have := r.head.isLt
    simp only [Fifo.index, Fin.ext_iff, Fin.val_ofNat]
    omega
  show (r.slots.set (r.index k) x)[(r.index j).val] = _
  rw [Vector.getElem_set]
  by_cases h : j = k
  · simp [h]
  · simp [h, show ¬ (r.index k).val = (r.index j).val from fun e => h (he.mp (Fin.ext e)), Fifo.slot]

/-- An entry appended is the new last slot, and the slots before it are as before. -/
theorem Fifo.slot_append (r : Fifo α) {j : Nat} (x : α) (hj : j < 8) (hs : r.size < 8) :
    (r.append x).slot j = if j = r.size then x else r.slot j := Fifo.slot_setSlot r x hj hs

@[simp] theorem Fifo.appendAll_size (l : List α) (r : Fifo α) : (r.appendAll l).size = r.size + l.length := by
  induction l generalizing r with
  | nil => rfl
  | cons x l ih => simp [Fifo.appendAll, ih]; omega

@[simp] theorem Fifo.appendAll_head (l : List α) (r : Fifo α) : (r.appendAll l).head = r.head := by
  induction l generalizing r with
  | nil => rfl
  | cons x l ih => simp [Fifo.appendAll, ih]

/-- Entries appended are the slots after those that were there. -/
theorem Fifo.slot_appendAll (l : List α) (r : Fifo α) {j : Nat} (hj : j < 8) (hs : r.size + l.length ≤ 8) :
    (r.appendAll l).slot j = if r.size ≤ j then (l[j - r.size]?).getD (r.slot j) else r.slot j := by
  induction l generalizing r with
  | nil => simp [Fifo.appendAll]
  | cons x l ih =>
    simp only [List.length_cons] at hs
    rw [Fifo.appendAll, ih (r.append x) (by simp; omega), Fifo.slot_append r x hj (by omega), Fifo.append_size]
    by_cases h1 : j = r.size
    · subst h1
      simp
    · by_cases h2 : r.size ≤ j
      · have e : j - r.size = j - (r.size + 1) + 1 := by omega
        simp [h1, h2, e, show r.size + 1 ≤ j by omega]
      · simp [h1, h2, show ¬ r.size + 1 ≤ j by omega]

end Sys2Proof.Machine
end

