-- ==== Sys2Proof/Laws/Display.lean ====
section
/-! SUPPORT. The display controller's invariant through the parts of a tick, and the place in the frame it reaches. -/

namespace Sys2Proof.Machine

theorem Display.mode2Tick_inv (m : Memory) (d : Display) (h : d.Inv) (hm : d.mode = .scan) : (d.mode2Tick m).Inv := by
  have hs := h.scan hm
  obtain ⟨ly, lx, dot, sprites, spriteX, asked, fSub, layer, discard, bgF, spF, vb, vbc, scan, drawing⟩ := h
  have hv : ¬ (144 ≤ d.ly.toNat) := fun h => by have := vb.mpr h; rw [hm] at this; cases this
  have hsc : ∀ n, (d.scanEntry m n).Inv ∧ (d.scanEntry m n).dot = d.dot ∧ (d.scanEntry m n).mode = d.mode ∧ (d.scanEntry m n).lx = d.lx ∧ (d.scanEntry m n).ly = d.ly := by
    intro n
    unfold Display.scanEntry
    simp only []
    split
    · rename_i hc
      simp only [Bool.and_eq_true, decide_eq_true_eq, spriteOnLine] at hc
      refine ⟨⟨ly, lx, dot, ?_, ?_, asked, fSub, ?_, discard, bgF, spF, vb, vbc, scan, drawing⟩, rfl, rfl, rfl, rfl⟩
      · simp; omega
      · intro p hp
        simp only [List.mem_append, List.mem_singleton] at hp
        rcases hp with hp | rfl
        · exact spriteX p hp
        · exact hc.2.1.1
      · intro i hi
        have := layer i hi
        simp; omega
    · exact ⟨⟨ly, lx, dot, sprites, spriteX, asked, fSub, layer, discard, bgF, spF, vb, vbc, scan, drawing⟩, rfl, rfl, rfl, rfl⟩
  have h1 : ∀ d1 : Display, d1.Inv → d1.dot = d.dot → d1.mode = d.mode → d1.lx = d.lx → d1.ly = d.ly →
     (let d2 : Display := if d1.ly = d1.wy then { d1 with wyMatched := true } else d1
      let d3 : Display := { d2 with dot := d2.dot + 1 }
      (if d3.dot = 80 then { d3 with mode := .drawing } else d3 : Display)).Inv := by
    intro d1 h1 e1 e2 e3 e4
    have e2' : d1.mode = .scan := e2.trans hm
    obtain ⟨ly1, lx1, dot1, sprites1, spriteX1, asked1, fSub1, layer1, discard1, bgF1, spF1, vb1, vbc1, scan1, drawing1⟩ := h1
    have hv1 : ¬ (144 ≤ d1.ly.toNat) := by rw [e4]; exact hv
    simp only []
    split <;> split <;> rename_i hc hd <;> (try simp only [] at hd ⊢) <;>
      (refine ⟨ly1, lx1, by simp only []; omega, sprites1, spriteX1, asked1, fSub1, layer1, discard1, bgF1, spF1, ?_, ?_, ?_, ?_⟩ <;> simp [hv1, e2'] <;> omega)
  unfold Display.mode2Tick
  simp only []
  split
  · have := hsc (d.dot / 2)
    exact h1 _ this.1 this.2.1 this.2.2.1 this.2.2.2.1 this.2.2.2.2
  · exact h1 d ⟨ly, lx, dot, sprites, spriteX, asked, fSub, layer, discard, bgF, spF, vb, vbc, scan, drawing⟩ rfl rfl rfl rfl

theorem nextSprite_lt (asked lx) : ∀ (l : List Sprite) (k i : Nat), nextSprite asked lx l k = some i → i < k + l.length := by
  intro l
  induction l with
  | nil => intro k i h; cases h
  | cons p l ih =>
    intro k i h
    unfold nextSprite at h
    split at h
    · cases h; simp
    · have := ih (k+1) i h
      simp; omega

/-- The place in the frame and the mode, which the parts of a drawing tick leave to its end. -/
def Display.SamePlace (d e : Display) : Prop := e.ly = d.ly ∧ e.dot = d.dot ∧ e.mode = d.mode

theorem Display.arbitrate_inv (d : Display) (h : d.Inv) : d.arbitrate.1.Inv ∧ Display.SamePlace d d.arbitrate.1 ∧ d.arbitrate.1.lx = d.lx := by
  obtain ⟨ly, lx, dot, sprites, spriteX, asked, fSub, layer, discard, bgF, spF, vb, vbc, scan, drawing⟩ := h
  unfold Display.arbitrate
  split
  · exact ⟨⟨ly, lx, dot, sprites, spriteX, asked, fSub, layer, discard, bgF, spF, vb, vbc, scan, drawing⟩, ⟨rfl, rfl, rfl⟩, rfl⟩
  · split
    · rename_i i hi
      have := nextSprite_lt _ _ _ _ _ hi
      refine ⟨⟨ly, lx, dot, sprites, spriteX, ?_, by simp, ?_, discard, bgF, spF, vb, vbc, scan, drawing⟩, ⟨rfl, rfl, rfl⟩, rfl⟩
      · simp [asked]
      · intro j hj; cases hj; simpa using this
    · split
      · unfold Display.enterWindow
        simp only []
        split
        · exact ⟨⟨ly, lx, dot, sprites, spriteX, asked, by simp, by simp, discard, bgF, spF, vb, vbc, scan, drawing⟩, ⟨rfl, rfl, rfl⟩, rfl⟩
        · exact ⟨⟨ly, lx, dot, sprites, spriteX, asked, by simp, by simp, by simp, by simp, spF, vb, vbc, scan, drawing⟩, ⟨rfl, rfl, rfl⟩, rfl⟩
      · exact ⟨⟨ly, lx, dot, sprites, spriteX, asked, fSub, layer, discard, bgF, spF, vb, vbc, scan, drawing⟩, ⟨rfl, rfl, rfl⟩, rfl⟩

@[simp] theorem Display.mergeSprite_size (d : Display) (p : Sprite) (skip n : Nat) (q : Fifo SpritePixel) :
    (d.mergeSprite p skip n q).size = q.size := by
  induction n with
  | zero => rfl
  | succ n ih => simp [Display.mergeSprite, ih]

@[simp] theorem Display.mergeSprite_head (d : Display) (p : Sprite) (skip n : Nat) (q : Fifo SpritePixel) :
    (d.mergeSprite p skip n q).head = q.head := by
  induction n with
  | zero => rfl
  | succ n ih => simp [Display.mergeSprite, ih]

/-- A merge of `n` pixels acts on the first `n` slots, each by its own pixel. -/
theorem Display.slot_mergeSprite (d : Display) (p : Sprite) (skip : Nat) (q : Fifo SpritePixel) {n j : Nat} (hn : n ≤ 8)
    (hj : j < 8) :
    (d.mergeSprite p skip n q).slot j = if j < n then d.mergePixel p (skip + j) (q.slot j) else q.slot j := by
  induction n generalizing j with
  | zero => rfl
  | succ n ih =>
    rw [Display.mergeSprite, Fifo.slot_setSlot _ _ hj (by omega), ih (by omega) (by omega), ih (by omega) hj]
    by_cases h : j = n
    · subst h; simp
    · simp [h, show j < n + 1 ↔ j < n by omega]

theorem Display.fetcherAct_inv (m : Memory) (d : Display) (h : d.Inv) : (d.fetcherAct m).Inv ∧ Display.SamePlace d (d.fetcherAct m) ∧ (d.fetcherAct m).lx = d.lx := by
  obtain ⟨ly, lx, dot, sprites, spriteX, asked, fSub, layer, discard, bgF, spF, vb, vbc, scan, drawing⟩ := h
  have pb : ∀ d', d.pushBackground = some d' → ({ d' with fState := .tileNo, fSub := 0 } : Display).Inv ∧ Display.SamePlace d { d' with fState := .tileNo, fSub := 0 } ∧ ({ d' with fState := .tileNo, fSub := 0 } : Display).lx = d.lx := by
    intro d' hd
    unfold Display.pushBackground at hd
    split at hd
    · cases hd
    · cases hd
      refine ⟨⟨ly, lx, dot, sprites, spriteX, asked, by simp, layer, ?_, by simp; omega, spF, vb, vbc, scan, drawing⟩, ⟨rfl, rfl, rfl⟩, rfl⟩
      simp only []
      split
      · omega
      · exact discard
  unfold Display.fetcherAct
  split
  · exact ⟨⟨ly, lx, dot, sprites, spriteX, asked, by simp, layer, discard, bgF, spF, vb, vbc, scan, drawing⟩, ⟨rfl, rfl, rfl⟩, rfl⟩
  · exact ⟨⟨ly, lx, dot, sprites, spriteX, asked, by simp, layer, discard, bgF, spF, vb, vbc, scan, drawing⟩, ⟨rfl, rfl, rfl⟩, rfl⟩
  · exact ⟨⟨ly, lx, dot, sprites, spriteX, asked, by simp, layer, discard, bgF, spF, vb, vbc, scan, drawing⟩, ⟨rfl, rfl, rfl⟩, rfl⟩
  · split
    · unfold Display.pushSprite
      refine ⟨⟨ly, lx, dot, sprites, spriteX, asked, by simp, by simp, discard, bgF, ?_, vb, vbc, scan, drawing⟩, ⟨rfl, rfl, rfl⟩, rfl⟩
      simp; omega
    · split
      · rename_i d' hd; exact pb d' hd
      · exact ⟨⟨ly, lx, dot, sprites, spriteX, asked, fSub, layer, discard, bgF, spF, vb, vbc, scan, drawing⟩, ⟨rfl, rfl, rfl⟩, rfl⟩

theorem Display.fetcherStep_inv (m : Memory) (d : Display) (h : d.Inv) : (d.fetcherStep m).Inv ∧ Display.SamePlace d (d.fetcherStep m) ∧ (d.fetcherStep m).lx = d.lx := by
  unfold Display.fetcherStep
  simp only []
  by_cases h1 : d.fSub < 2
  · have h' : ({ d with fSub := d.fSub + 1 } : Display).Inv := by
      obtain ⟨ly, lx, dot, sprites, spriteX, asked, fSub, layer, discard, bgF, spF, vb, vbc, scan, drawing⟩ := h
      exact ⟨ly, lx, dot, sprites, spriteX, asked, by simp only []; omega, layer, discard, bgF, spF, vb, vbc, scan, drawing⟩
    simp only [h1, if_true]
    split
    · exact ⟨h', ⟨rfl, rfl, rfl⟩, rfl⟩
    · have := Display.fetcherAct_inv m _ h'
      exact ⟨this.1, this.2.1, this.2.2⟩
  · simp only [h1, if_false]
    exact Display.fetcherAct_inv m d h

theorem Display.mixWhen_inv (run : Bool) (d : Display) (h : d.Inv) (hm : d.mode = .drawing) : 
    Display.SamePlace d (d.mixWhen run).1 ∧ ({(d.mixWhen run).1 with mode := .hblank, lx := 0} : Display).Inv ∧ (d.mixWhen run).1.lx ≤ d.lx + 1 := by
  have hv : ¬ (144 ≤ d.ly.toNat) := fun hh => by have := h.vblank.mpr hh; rw [hm] at this; cases this
  obtain ⟨ly, lx, dot, sprites, spriteX, asked, fSub, layer, discard, bgF, spF, vb, vbc, scan, drawing⟩ := h
  unfold Display.mixWhen
  split
  · unfold Display.mixerStep
    split
    · refine ⟨⟨rfl, rfl, rfl⟩, ⟨ly, by simp, dot, sprites, spriteX, asked, fSub, layer, discard, bgF, spF, ?_, ?_, ?_, ?_⟩, by simp⟩ <;> simp [hv]
    · have hl : d.bgFifo.pop.size ≤ 8 := by simp; omega
      split
      · refine ⟨⟨rfl, rfl, rfl⟩, ⟨ly, by simp, dot, sprites, spriteX, asked, fSub, layer, by simp only []; omega, hl, spF, ?_, ?_, ?_, ?_⟩, by simp⟩ <;> simp [hv]
      · refine ⟨⟨rfl, rfl, rfl⟩, ⟨ly, by simp, dot, sprites, spriteX, asked, fSub, layer, discard, hl, ?_, ?_, ?_, ?_, ?_⟩, by simp⟩ <;> simp [hv]
        omega
  · refine ⟨⟨rfl, rfl, rfl⟩, ⟨ly, by simp, dot, sprites, spriteX, asked, fSub, layer, discard, bgF, spF, ?_, ?_, ?_, ?_⟩, by simp⟩ <;> simp [hv]

theorem Display.endLine_inv (d : Display) (hl : d.ly.toNat < 144) : d.endLine.1.Inv ∧ d.endLine.1.ly.toNat = d.ly.toNat + 1 ∧ d.endLine.1.dot = 0 ∧
    (d.endLine.2 = 1 ↔ d.ly.toNat = 143) ∧ (d.endLine.2 = 0 ∨ d.endLine.2 = 1) := by
  have e : (d.ly + 1).toNat = d.ly.toNat + 1 := by rw [BitVec.toNat_add]; simp; omega
  have e2 : (d.ly + 1 = 144) ↔ d.ly.toNat = 143 := by
    rw [← BitVec.toNat_inj, e]; simp
  have e3 : ({ d with dot := 0, windowLine := if d.winEngaged then d.windowLine + 1 else d.windowLine } : Display).lineReset.ly = d.ly := rfl
  unfold Display.endLine
  simp only [e3]
  by_cases h : d.ly + 1 = 144
  · simp only [h, if_true]
    unfold Display.lineReset
    refine ⟨⟨by simp, by simp, by simp, by simp, by simp, by simp, by simp, by simp, by simp, by simp, by simp, by simp, by simp, by simp, by simp⟩, ?_, rfl, ?_, by simp⟩
    · rw [e2.mp h]; rfl
    · simp [e2.mp h]
  · simp only [h, if_false]
    unfold Display.lineReset
    have := mt e2.mpr h
    refine ⟨⟨?_, by simp, by simp, by simp, by simp, by simp, by simp, by simp, by simp, by simp, by simp, ?_, by simp, by simp, by simp⟩, e, rfl, ?_, by simp⟩
    · simp only [e]; omega
    · simp only [e, reduceCtorEq, false_iff]; omega
    · simp; exact this

/-- What a tick of an enabled controller answers, apart from the display-status interrupt: the invariant kept, the
place one further, and the vertical-blank request exactly on entering scanline 144 (R420, R426). -/
structure Display.TickOf (d e : Display) (q : BitVec 5) : Prop where
  inv : e.Inv
  place : 456 * e.ly.toNat + e.dot = (456 * d.ly.toNat + d.dot + 1) % 70224
  req : q = 0 ∨ q = 1
  vb : q = 1 ↔ 456 * e.ly.toNat + e.dot = 456 * 144

theorem Display.endLine_tick (d d0 : Display) (hly : d.ly = d0.ly) (hl : d0.ly.toNat < 144) (hd : d0.dot + 1 = 456) : Display.TickOf d0 d.endLine.1 d.endLine.2 := by
  have := Display.endLine_inv d (by rw [hly]; exact hl)
  obtain ⟨h1, h2, h3, h4, h5⟩ := this
  rw [hly] at h2 h4
  refine ⟨h1, by omega, h5, ?_⟩
  rw [h4, h2, h3]; omega

theorem Display.mode3Tick_tick (m : Memory) (d : Display) (h : d.Inv) (hm : d.mode = .drawing) : Display.TickOf d (d.mode3Tick m).1 (d.mode3Tick m).2.2 := by
  have hl : d.ly.toNat < 144 := by
    by_contra hh
    have := h.vblank.mpr (by omega); rw [hm] at this; cases this
  have ha := Display.arbitrate_inv d h
  have hf := Display.fetcherStep_inv m d.arbitrate.1 ha.1
  have hfm : (d.arbitrate.1.fetcherStep m).mode = .drawing := by rw [hf.2.1.2.2, ha.2.1.2.2, hm]
  have hx := Display.mixWhen_inv d.arbitrate.2 _ hf.1 hfm
  unfold Display.mode3Tick
  simp only []
  generalize hy : ((d.arbitrate.1.fetcherStep m).mixWhen d.arbitrate.2).1 = y at *
  have sly : y.ly = d.ly := by rw [hx.1.1, hf.2.1.1, ha.2.1.1]
  have sdot : y.dot = d.dot := by rw [hx.1.2.1, hf.2.1.2.1, ha.2.1.2.1]
  have smode : y.mode = .drawing := by rw [hx.1.2.2, hfm]
  have slx : y.lx ≤ d.lx + 1 := by have := hx.2.2; rw [hf.2.2, ha.2.2] at this; exact this
  have hdr := h.drawing hm
  have hdot := h.dot
  have hi := hx.2.1
  unfold Display.drawnDot
  simp only []
  by_cases h1 : y.dot + 1 = 456
  · simp only [h1, if_true]
    exact Display.endLine_tick _ d (by simp only [sly]) hl (by omega)
  · have hn : ¬ 144 ≤ y.ly.toNat := by rw [sly]; omega
    obtain ⟨ly, lx, dot, sprites, spriteX, asked, fSub, layer, discard, bgF, spF, vb, vbc, scan, drawing⟩ := hi
    by_cases h2 : y.lx = 160
    · simp only [h1, h2, if_true, if_false]
      refine ⟨⟨ly, by simp [h2], by simp only []; omega, sprites, spriteX, asked, fSub, layer, discard, bgF, spF, ?_, ?_, ?_, ?_⟩, ?_, .inl rfl, ?_⟩
      · simp; omega
      · simp
      · simp
      · simp
      · simp only [sly, sdot]; omega
      · simp [sly, sdot]; omega
    · simp only [h1, h2, if_false]
      refine ⟨⟨ly, by simp only []; omega, by simp only []; omega, sprites, spriteX, asked, fSub, layer, discard, bgF, spF, ?_, ?_, ?_, ?_⟩, ?_, .inl rfl, ?_⟩
      · simp [smode]; omega
      · simp [smode]
      · simp [smode]
      · simp only [smode]; omega
      · simp only [sly, sdot]; omega
      · simp [sly, sdot]; omega

theorem Display.mode0Tick_tick (d : Display) (h : d.Inv) (hm : d.mode = .hblank) : Display.TickOf d (d.mode0Tick).1 (d.mode0Tick).2 := by
  have hl : d.ly.toNat < 144 := by
    by_contra hh
    have := h.vblank.mpr (by omega); rw [hm] at this; cases this
  have hdot := h.dot
  unfold Display.mode0Tick
  simp only []
  by_cases h1 : d.dot + 1 = 456
  · simp only [h1, if_true]
    exact Display.endLine_tick _ d rfl hl (by omega)
  · simp only [h1, if_false]
    obtain ⟨ly, lx, dot, sprites, spriteX, asked, fSub, layer, discard, bgF, spF, vb, vbc, scan, drawing⟩ := h
    refine ⟨⟨ly, lx, by simp only []; omega, sprites, spriteX, asked, fSub, layer, discard, bgF, spF, ?_, ?_, ?_, ?_⟩, ?_, .inl rfl, ?_⟩
    · simp [hm]; omega
    · simp [hm]
    · simp [hm]
    · simp [hm]
    · simp only []; omega
    · simp; omega

theorem Display.mode1Tick_tick (d : Display) (h : d.Inv) (hm : d.mode = .vblank) : Display.TickOf d (d.mode1Tick) 0 := by
  have hl := h.vblank.mp hm
  have hdot := h.dot
  have hly := h.ly
  unfold Display.mode1Tick
  simp only []
  obtain ⟨ly, lx, dot, sprites, spriteX, asked, fSub, layer, discard, bgF, spF, vb, vbc, scan, drawing⟩ := h
  by_cases h1 : d.dot + 1 = 456
  · simp only [h1, if_true]
    by_cases h2 : d.ly = 153
    · simp only [h2, if_true]
      have h2' : d.ly.toNat = 153 := by rw [h2]; rfl
      refine ⟨⟨by simp, lx, by simp, sprites, spriteX, asked, fSub, layer, discard, bgF, spF, ?_, ?_, ?_, ?_⟩, ?_, .inl rfl, ?_⟩
      · simp
      · simp
      · simp; exact vbc hm
      · simp
      · simp; omega
      · simp
    · simp only [h2, if_false]
      have h2' : d.ly.toNat ≠ 153 := fun hh => h2 (by rw [← BitVec.toNat_inj, hh]; rfl)
      have e : (d.ly + 1).toNat = d.ly.toNat + 1 := by rw [BitVec.toNat_add]; simp; omega
      refine ⟨⟨by simp only [e]; omega, lx, by simp, sprites, spriteX, asked, fSub, layer, discard, bgF, spF, ?_, ?_, ?_, ?_⟩, ?_, .inl rfl, ?_⟩
      · simp only [hm, e]; simp; omega
      · simpa using vbc
      · simp [hm]
      · simp [hm]
      · simp only [e]; omega
      · simp only [e]; simp; omega
  · simp only [h1, if_false]
    refine ⟨⟨ly, lx, by simp only []; omega, sprites, spriteX, asked, fSub, layer, discard, bgF, spF, vb, vbc, ?_, ?_⟩, ?_, .inl rfl, ?_⟩
    · simp [hm]
    · simp [hm]
    · simp only []; omega
    · simp; omega

theorem Display.mode2Tick_place (m : Memory) (d : Display) : (d.mode2Tick m).ly = d.ly ∧ (d.mode2Tick m).dot = d.dot + 1 := by
  unfold Display.mode2Tick Display.scanEntry
  simp only []
  repeat' split
  all_goals exact ⟨rfl, rfl⟩

theorem Display.mode2Tick_tick (m : Memory) (d : Display) (h : d.Inv) (hm : d.mode = .scan) : Display.TickOf d (d.mode2Tick m) 0 := by
  have hl : d.ly.toNat < 144 := by
    by_contra hh
    have := h.vblank.mpr (by omega); rw [hm] at this; cases this
  have hs := h.scan hm
  have hp := Display.mode2Tick_place m d
  refine ⟨Display.mode2Tick_inv m d h hm, by rw [hp.1, hp.2]; omega, .inl rfl, ?_⟩
  rw [hp.1, hp.2]; simp; omega

theorem Display.modeTick_tick (m : Memory) (d : Display) (h : d.Inv) : Display.TickOf d (d.modeTick m).1 (d.modeTick m).2.2 := by
  unfold Display.modeTick
  split <;> rename_i hm
  · exact Display.mode2Tick_tick m d h hm
  · exact Display.mode3Tick_tick m d h hm
  · exact Display.mode0Tick_tick d h hm
  · exact Display.mode1Tick_tick d h hm

theorem Display.statUpdate_inv (d : Display) (h : d.Inv) : d.statUpdate.1.Inv := by
  obtain ⟨ly, lx, dot, sprites, spriteX, asked, fSub, layer, discard, bgF, spF, vb, vbc, scan, drawing⟩ := h
  exact ⟨ly, lx, dot, sprites, spriteX, asked, fSub, layer, discard, bgF, spF, vb, vbc, scan, drawing⟩

theorem Display.forceOff_inv (d : Display) : d.forceOff.Inv := by
  unfold Display.forceOff Display.lineReset
  refine ⟨by simp, by simp, by simp, by simp, by simp, by simp, by simp, by simp, by simp, by simp, by simp, by simp, by simp, by simp, by simp⟩

theorem Display.tick_inv (m : Memory) (d : Display) (h : d.Inv) : (d.tick m).1.Inv := by
  unfold Display.tick
  split
  · exact Display.statUpdate_inv _ (Display.modeTick_tick m d h).inv
  · exact Display.forceOff_inv d

end Sys2Proof.Machine
end

