-- ==== Sys2Proof/Laws/Fetch.lean ====
section
/-! SUPPORT. Fetching an instruction from addresses that read the same through the ticks of the fetch: what is fetched is
what the bytes standing there decode to. -/

namespace Sys2Proof.Machine

theorem later_zero (s : State) : s.later 0 = s := rfl

theorem fetchImmediates_imm8 (f : Byte → Instr) {s t : State} {v : Byte} (h : fetch8 s = .ok v t) :
    fetchImmediates (.imm8 f) s = .ok (f v) t := by
  exact (show (fetch8 >>= fun n => pure (f n)) s = _ by rw [bind_of_ok h]; rfl)

theorem fetchImmediates_imm16 (f : BitVec 16 → Instr) {s t : State} {v : BitVec 16} (h : fetch16 s = .ok v t) :
    fetchImmediates (.imm16 f) s = .ok (f v) t := by
  exact (show (fetch16 >>= fun n => pure (f n)) s = _ by rw [bind_of_ok h]; rfl)

/-- The immediates of an entry, fetched from steady addresses, make the instruction that decoding the bytes there makes. -/
theorem fetchImmediates_ok {s : State} {c : Cpu} {e : Entry} {op : Byte} {i : Instr} {n : Nat} (hs : s.chargeSafe)
    (hb : c.haltBug = false) (he : e.Encodes op) (hst : ∀ k < n, s.steady (c.pc + BitVec.ofNat 16 k))
    (hd : takeImmediates e ((List.range n).map fun k => s.peek (c.pc + BitVec.ofNat 16 k)) = .ok (i, []))
    (hn : i = .stop → n = 0) :
    fetchImmediates e (s.withCpu c) = .ok i ((s.later n).withCpu { c with pc := c.pc + BitVec.ofNat 16 n }) := by
  have haf : ∀ c : Cpu, c.haltBug = false → c.afterFetch = { c with pc := c.pc + 1 } := by
    intro c h; simp [Cpu.afterFetch, h]
  cases e with
  | op j =>
    cases n with
    | zero => cases hd; simp [fetchImmediates, later_zero]
    | succ n => simp [List.range_succ_eq_map, takeImmediates] at hd
  | skip1 j =>
    have : j = i := by simp only [takeImmediates] at hd; injection hd with hd; injection hd
    subst this
    have : n = 0 := hn he.1
    subst this
    simp [fetchImmediates, later_zero]
  | imm8 f =>
    rcases n with _ | _ | n
    · simp [takeImmediates] at hd
    · simp only [List.range_succ, List.range_zero, List.nil_append, List.map_cons, List.map_nil, takeImmediates] at hd
      cases hd
      have h0 := hst 0 (by omega)
      simp only [BitVec.add_zero] at h0 ⊢
      have := fetch8_steady (c := c) hs (by simpa using h0)
      rw [fetchImmediates_imm8 f this, haf c hb]
      simp
    · simp [List.range_succ_eq_map, takeImmediates] at hd
  | imm16 f =>
    rcases n with _ | _ | _ | n
    · simp [takeImmediates] at hd
    · simp [takeImmediates] at hd
    · simp only [List.range_succ, List.range_zero, List.nil_append, List.cons_append, List.map_cons,
        List.map_nil, takeImmediates] at hd
      cases hd
      have h0 := hst 0 (by omega)
      have h1 := hst 1 (by omega)
      simp only [BitVec.add_zero] at h0 ⊢
      have e0 := fetch8_steady (c := c) hs (by simpa using h0)
      have e1 := fetch8_steady (s := s.later 1) (c := { c with pc := c.pc + 1 }) (later_chargeSafe 1 hs)
        (steady_later 1 hs h1)
      rw [haf c hb] at e0
      have hc1 : ({ c with pc := c.pc + 1 } : Cpu).haltBug = false := hb
      rw [haf _ hc1, later_later 1 1 hs] at e1
      simp only [] at e1
      have hp := peek_later 1 hs h1
      rw [show (State.later 1 s).peek (c.pc + 1) = s.peek (c.pc + 1) from hp] at e1
      have e16 : fetch16 (s.withCpu c) = .ok (concat8 (s.peek (c.pc + 1#16)) (s.peek c.pc))
          ((s.later 2).withCpu { c with pc := c.pc + 2 }) := by
        unfold fetch16
        rw [bind_of_ok e0, bind_of_ok e1]
        have : c.pc + 1 + 1 = c.pc + 2 := by rw [BitVec.add_assoc]; rfl
        rw [this]; rfl
      rw [fetchImmediates_imm16 f e16]
      simp
    · simp [List.range_succ_eq_map, takeImmediates] at hd

theorem fetchedBytes_pos (i : Instr) : 0 < (fetchedBytes i).length := by
  cases i <;> exact Nat.succ_pos _

theorem hostTurn_nil {s : State} (h : s.hostInput = []) : s.hostTurn = s := by
  unfold State.hostTurn; rw [h]

/-- The instruction that the bytes at `pc` decode to is the one fetched, if they are steady. -/
theorem fetchFirst_ok {s : State} {c : Cpu} {i : Instr} {n : Nat} (hs : s.chargeSafe) (hb : c.haltBug = false)
    (hst : ∀ k < n + 1, s.steady (c.pc + BitVec.ofNat 16 k))
    (hd : decodeFirst ((List.range (n + 1)).map fun k => s.peek (c.pc + BitVec.ofNat 16 k)) = .ok (i, []))
    (hn : i = .stop → n = 0) :
    fetchFirst (s.withCpu c) = .ok i
      ((s.later (n + 1)).withCpu { c with opAddr := c.pc, pc := c.pc + BitVec.ofNat 16 (n + 1) }) := by
  have h0 : s.steady c.pc := by simpa using hst 0 (by omega)
  have e0 : fetchOpcode (s.withCpu c) =
      .ok (s.peek c.pc) ((s.later 1).withCpu { c with opAddr := c.pc, pc := c.pc + 1 }) := by
    unfold fetchOpcode
    simp only [updateCpu_bind, withCpu_withCpu, withCpu_cpu]
    rw [fetch8_steady (c := { c with opAddr := c.pc }) hs h0]
    simp [Cpu.afterFetch, hb]
  unfold fetchFirst
  rw [bind_of_ok e0]
  rw [List.range_succ_eq_map] at hd
  simp only [List.map_cons, decodeFirst, BitVec.add_zero, List.map_map] at hd
  have hk : ∀ k, c.pc + BitVec.ofNat 16 (k+1) = c.pc + 1 + BitVec.ofNat 16 k := by
    intro k; rw [Nat.add_comm, BitVec.ofNat_add, ← BitVec.add_assoc]; rfl
  have h1 : ∀ k < n, s.steady (c.pc + 1 + BitVec.ofNat 16 k) := by
    intro k hk'; rw [← hk]; exact hst (k+1) (by omega)
  rw [fetchImmediates_ok (s := s.later 1) (c := { c with opAddr := c.pc, pc := c.pc + 1 })
    (e := firstEntry (s.peek c.pc)) (i := i) (n := n) (later_chargeSafe 1 hs) hb (firstEntry_encodes _)
    (fun k hk' => steady_later 1 hs (h1 k hk')) ?_ hn]
  · rw [later_later 1 n hs, Nat.add_comm]
    simp only [hk]
  · rw [← hd]
    congr 1
    apply List.map_congr_left
    intro k hk'
    rw [List.mem_range] at hk'
    simp only [Function.comp_apply]
    rw [show c.pc + BitVec.ofNat 16 k.succ = c.pc + 1 + BitVec.ofNat 16 k from hk k]
    exact peek_later 1 hs (h1 k hk')

end Sys2Proof.Machine
end

