-- ==== Sys2Proof/Tests/Slice0.lean ====
section
/-! SUPPORT. Tests of the model and witnesses for its statements. The expected results are those of the spec: the
instruction tests are rows of 95_test_vectors.md section 2 (the rule is in the name), the scenario tests are its section 3,
the decoded words are written out from 30_encoding.md. A witness shows that a statement's hypotheses can be met, at the
ends of their ranges where they have ranges. -/

namespace Sys2Proof.Machine

/-! ### Small states -/

/-- The CPU of the vectors: registers zero, SP = DFF0, pc = C000 (95, section 2). -/
def unit : Cpu :=
  { a := 0, f := 0, b := 0, c := 0, d := 0, e := 0, h := 0, l := 0, sp := 0xDFF0, pc := 0xC000
    halted := false, haltBug := false, prefixedPending := false, ime := false, imeSched := false
    opAddr := 0xC000 }

/-- The state of the vectors: the CPU given, no request and none enabled, a program at C000. -/
def probe (prog : List Byte) (c : Cpu) : State :=
  ({ State.reset with cpu := c, ie := 0, iflag := 0 } : State).pokes 0xC000 prog

/-- `probe` with bytes written through the bus. -/
def probeWith (prog : List Byte) (c : Cpu) (mem : List (Addr × Byte)) : State :=
  mem.foldl (fun s x => s.stored x.1 x.2) (probe prog c)

/-- The answer is a next state in which `p` holds. -/
def ranTo (r : Answer) (p : State → Bool) : Bool :=
  match r with
  | .next t => p t
  | .fault _ => false
  | .refused _ => false

/-- One step of a program from a CPU and bytes of memory costs the machine cycles given and ends with the CPU and the bytes
given, as read through the bus. -/
def runs (prog : List Byte) (pre : Cpu) (mem : List (Addr × Byte)) (cost : Nat) (post : Cpu)
    (mem' : List (Addr × Byte)) : Bool :=
  ranTo (step (probeWith prog pre mem)) fun t =>
    t.cpu == post && t.clk == 4 * cost && mem'.all fun x => t.peek x.1 == x.2

/-! ### Decoding: words written out from 30_encoding.md (R120, R123, R124 to R127, R130, R131) -/

theorem test_decode_load8 :
    decode [0b01001010] = .ok (.ldCD, []) ∧ decode [0b01110111] = .ok (.ldMemHlA, []) ∧
    decode [0b00110110, 0x5A] = .ok (.ldMemHlN 0x5A, []) ∧ decode [0b11110000, 0x44] = .ok (.ldhAMemN 0x44, []) ∧
    decode [0b11101010, 0x34, 0xC2] = .ok (.ldMemNnA 0xC234, []) := by decide

theorem test_decode_load16_stack :
    decode [0b00010001, 0x34, 0x12] = .ok (.ldDeNn 0x1234, []) ∧ decode [0b11110101] = .ok (.pushAf, []) ∧
    decode [0b11100001] = .ok (.popHl, []) ∧ decode [0b11111000, 0xFF] = .ok (.ldHlSpE 0xFF, []) := by decide

theorem test_decode_alu8 :
    decode [0b10000001] = .ok (.addAC, []) ∧ decode [0b10011110] = .ok (.sbcAMemHl, []) ∧
    decode [0b11111110, 0x3C] = .ok (.cpN 0x3C, []) ∧ decode [0b00101101] = .ok (.decL, []) ∧
    decode [0b00100111] = .ok (.daa, []) := by decide

theorem test_decode_alu16 :
    decode [0b00111001] = .ok (.addHlSp, []) ∧ decode [0b00000011] = .ok (.incBc, []) ∧
    decode [0b00111011] = .ok (.decSp, []) ∧ decode [0b11101000, 0x80] = .ok (.addSpE 0x80, []) := by decide

theorem test_decode_rotate_shift_bit :
    decode [0b00010111] = .ok (.rla, []) ∧ decode [0xCB, 0b00101000] = .ok (.sraB, []) ∧
    decode [0xCB, 0b01111110] = .ok (.bit7MemHl, []) ∧ decode [0xCB, 0b10001101] = .ok (.res1L, []) ∧
    decode [0xCB, 0b11100111] = .ok (.set4A, []) := by decide

theorem test_decode_control_flow :
    decode [0b11001010, 0x00, 0x02] = .ok (.jpZNn 0x0200, []) ∧ decode [0b00110000, 0x80] = .ok (.jrNcE 0x80, []) ∧
    decode [0b11011100, 0xFF, 0xFF] = .ok (.callCNn 0xFFFF, []) ∧ decode [0b11000000] = .ok (.retNz, []) ∧
    decode [0b11101111] = .ok (.rst28, []) ∧ decode [0b11101001] = .ok (.jpHl, []) := by decide

theorem test_decode_misc_system :
    decode [0b01110110] = .ok (.halt, []) ∧ decode [0b11111011] = .ok (.ei, []) ∧
    decode [0b00010000, 0xAA] = .ok (.stop, []) ∧ decode [0b11101101] = .ok (.illegalED, []) ∧
    decode [0xCB] = .ok (.prefixCb, []) := by decide

/-- A word that ends before its instruction does is refused by name; no word is refused for its bits (R134). -/
theorem test_decode_truncated :
    (decode []).isOk = false ∧ (decode [0x3E]).isOk = false ∧ (decode [0xC3, 0x50]).isOk = false ∧
    (decodeSecond []).isOk = false := by decide

theorem test_table_words :
    decodeTableWord 8 0x21 = some (.ldHlNn 0x0000) ∧ decodeTableWord 16 0xCB2C = some .sraH ∧
    decodeTableWord 16 0x2CCB = some .sraH ∧ decodeTableWord 8 0xCB = some .prefixCb := by decide

/-! ### Well-formedness -/

/-- WellFormed makes no check: immediates have the types of their fields, every value of a field is legal and no encoding
is reserved (R120, R134), so there is no ill-formed term for it to refuse. -/
theorem test_every_immediate_is_wellformed :
    (Instr.ldAN 0xFF).wellFormed = true ∧ (Instr.jpNn 0xFFFF).wellFormed = true ∧
    Instr.stop.wellFormed = true ∧ Instr.illegalFD.wellFormed = true := by decide

/-! ### One step of each kind of instruction: rows of 95_test_vectors.md section 2 -/

theorem test_R151_ld_b_c :
    runs [0x41] { unit with b := 0x12, c := 0x34 } [] 1
      { unit with b := 0x34, c := 0x34, pc := 0xC001 } [] = true := by decide

theorem test_R152_ld_a_0x7f :
    runs [0x3E, 0x7F] unit [] 2
      { unit with a := 0x7F, pc := 0xC002 } [] = true := by decide

theorem test_R153_ld_b_mem_hl :
    runs [0x46] { unit with h := 0xC1, l := 0x00 } [(0xC100, 0x5A)] 2
      { unit with b := 0x5A, h := 0xC1, l := 0x00, pc := 0xC001 } [] = true := by decide

theorem test_R153_ld_a_mem_hl_prohibited :
    runs [0x7E] { unit with h := 0xE0, l := 0x00 } [] 2
      { unit with a := 0xFF, h := 0xE0, l := 0x00, pc := 0xC001 } [] = true := by decide

theorem test_R154_ld_mem_hl_a :
    runs [0x77] { unit with a := 0x99, h := 0xC0, l := 0x10 } [] 2
      { unit with a := 0x99, h := 0xC0, l := 0x10, pc := 0xC001 } [(0xC010, 0x99)] = true := by decide

theorem test_R155_ld_mem_hl_0x01 :
    runs [0x36, 0x01] { unit with h := 0xFF, l := 0x80 } [] 3
      { unit with h := 0xFF, l := 0x80, pc := 0xC002 } [(0xFF80, 0x01)] = true := by decide

theorem test_R156_ld_a_mem_bc :
    runs [0x0A] { unit with b := 0xC1, c := 0x01 } [(0xC101, 0x42)] 2
      { unit with a := 0x42, b := 0xC1, c := 0x01, pc := 0xC001 } [] = true := by decide

theorem test_R157_ld_a_mem_de :
    runs [0x1A] { unit with d := 0xC0, e := 0x01 } [(0xC001, 0x42)] 2
      { unit with a := 0x42, d := 0xC0, e := 0x01, pc := 0xC001 } [] = true := by decide

theorem test_R158_ld_mem_bc_a :
    runs [0x02] { unit with a := 0x07, b := 0xC0, c := 0x02 } [] 2
      { unit with a := 0x07, b := 0xC0, c := 0x02, pc := 0xC001 } [(0xC002, 0x07)] = true := by decide

theorem test_R159_ld_mem_de_a :
    runs [0x12] { unit with a := 0xFF, d := 0x80, e := 0x00 } [] 2
      { unit with a := 0xFF, d := 0x80, e := 0x00, pc := 0xC001 } [(0x8000, 0xFF)] = true := by decide

theorem test_R160_ld_a_mem_0xc234 :
    runs [0xFA, 0x34, 0xC2] unit [(0xC234, 0x77)] 4
      { unit with a := 0x77, pc := 0xC003 } [] = true := by decide

theorem test_R161_ld_mem_0xc234_a :
    runs [0xEA, 0x34, 0xC2] { unit with a := 0x05 } [] 4
      { unit with a := 0x05, pc := 0xC003 } [(0xC234, 0x05)] = true := by decide

theorem test_R162_ld_a_mem_c :
    runs [0xF2] { unit with c := 0x80 } [(0xFF80, 0x3C)] 2
      { unit with a := 0x3C, c := 0x80, pc := 0xC001 } [] = true := by decide

theorem test_R163_ld_mem_c_a :
    runs [0xE2] { unit with a := 0xE4, c := 0x47 } [] 2
      { unit with a := 0xE4, c := 0x47, pc := 0xC001 } [(0xFF47, 0xE4)] = true := by decide

theorem test_R164_ldh_a_mem_0x0f :
    runs [0xF0, 0x0F] unit [(0xFF0F, 0x05)] 3
      { unit with a := 0xE5, pc := 0xC002 } [] = true := by decide

theorem test_R164_ldh_a_mem_0x10_unmapped :
    runs [0xF0, 0x10] { unit with a := 0x00 } [] 3
      { unit with a := 0xFF, pc := 0xC002 } [] = true := by decide

theorem test_R165_ldh_mem_0x80_a :
    runs [0xE0, 0x80] { unit with a := 0x04 } [] 3
      { unit with a := 0x04, pc := 0xC002 } [(0xFF80, 0x04)] = true := by decide

theorem test_R165_ldh_mem_0xff_a :
    runs [0xE0, 0xFF] { unit with a := 0xFF } [] 3
      { unit with a := 0xFF, pc := 0xC002 } [(0xFFFF, 0xFF), (0xFFFF, 0xFF)] = true := by decide

theorem test_R166_ld_a_mem_hldec :
    runs [0x3A] { unit with h := 0xC1, l := 0x00 } [(0xC100, 0x11)] 2
      { unit with a := 0x11, h := 0xC0, l := 0xFF, pc := 0xC001 } [] = true := by decide

theorem test_R166_ld_a_mem_hldec_wrap :
    runs [0x3A] { unit with h := 0x00, l := 0x00 } [] 2
      { unit with a := 0x00, h := 0xFF, l := 0xFF, pc := 0xC001 } [] = true := by decide

theorem test_R167_ld_mem_hldec_a :
    runs [0x32] { unit with a := 0x00, h := 0x9F, l := 0xFF } [] 2
      { unit with a := 0x00, h := 0x9F, l := 0xFE, pc := 0xC001 } [(0x9FFF, 0x00)] = true := by decide

theorem test_R168_ld_a_mem_hlinc :
    runs [0x2A] { unit with h := 0xC1, l := 0x00 } [(0xC100, 0x22)] 2
      { unit with a := 0x22, h := 0xC1, l := 0x01, pc := 0xC001 } [] = true := by decide

theorem test_R168_ld_a_mem_hlinc_wrap :
    runs [0x2A] { unit with h := 0xFF, l := 0xFF } [(0xFFFF, 0x15)] 2
      { unit with a := 0xF5, h := 0x00, l := 0x00, pc := 0xC001 } [] = true := by decide

theorem test_R169_ld_mem_hlinc_a :
    runs [0x22] { unit with a := 0xAB, h := 0xC1, l := 0x00 } [] 2
      { unit with a := 0xAB, h := 0xC1, l := 0x01, pc := 0xC001 } [(0xC100, 0xAB)] = true := by decide

theorem test_R180_ld_sp_0xfffe :
    runs [0x31, 0xFE, 0xFF] unit [] 3
      { unit with sp := 0xFFFE, pc := 0xC003 } [] = true := by decide

theorem test_R181_ld_mem_0xc100_sp :
    runs [0x08, 0x00, 0xC1] { unit with sp := 0xFFF8 } [] 5
      { unit with sp := 0xFFF8, pc := 0xC003 } [(0xC100, 0xF8), (0xC101, 0xFF)] = true := by decide

theorem test_R182_ld_sp_hl :
    runs [0xF9] { unit with h := 0xD0, l := 0x00 } [] 2
      { unit with h := 0xD0, l := 0x00, sp := 0xD000, pc := 0xC001 } [] = true := by decide

theorem test_R183_ld_hl_spplus_0x08 :
    runs [0xF8, 0x08] { unit with f := 0xC0, sp := 0xFFF8 } [] 3
      { unit with f := 0x30, h := 0x00, l := 0x00, sp := 0xFFF8, pc := 0xC002 } [] = true := by decide

theorem test_R183_ld_hl_spplus_2 :
    runs [0xF8, 0x02] { unit with sp := 0xDFFE } [] 3
      { unit with f := 0x30, h := 0xE0, l := 0x00, sp := 0xDFFE, pc := 0xC002 } [] = true := by decide

theorem test_R184_push_bc :
    runs [0xC5] { unit with b := 0x12, c := 0x34, sp := 0xFFFE } [] 4
      { unit with b := 0x12, c := 0x34, sp := 0xFFFC, pc := 0xC001 } [(0xFFFD, 0x12), (0xFFFC, 0x34)] = true := by decide

theorem test_R184_push_hl_sp_wraps :
    runs [0xE5] { unit with h := 0xAB, l := 0xCD, sp := 0x0001 } [] 4
      { unit with h := 0xAB, l := 0xCD, sp := 0xFFFF, pc := 0xC001 } [(0xFFFF, 0xED)] = true := by decide

theorem test_R185_pop_af_masks_f :
    runs [0xF1] { unit with sp := 0xD000 } [(0xD000, 0xFF), (0xD001, 0x12)] 3
      { unit with a := 0x12, f := 0xF0, sp := 0xD002, pc := 0xC001 } [] = true := by decide

theorem test_R185_pop_bc :
    runs [0xC1] { unit with sp := 0xFFFC } [(0xFFFC, 0x5F), (0xFFFD, 0x3C)] 3
      { unit with b := 0x3C, c := 0x5F, sp := 0xFFFE, pc := 0xC001 } [] = true := by decide

theorem test_R192_add_a_b :
    runs [0x80] { unit with a := 0x3A, b := 0xC6 } [] 1
      { unit with a := 0x00, f := 0xB0, b := 0xC6, pc := 0xC001 } [] = true := by decide

theorem test_R192_add_0xffplus_0x01 :
    runs [0xC6, 0x01] { unit with a := 0xFF } [] 2
      { unit with a := 0x00, f := 0xB0, pc := 0xC002 } [] = true := by decide

theorem test_R193_add_a_mem_hl :
    runs [0x86] { unit with a := 0x0F, h := 0xC1, l := 0x00 } [(0xC100, 0x01)] 2
      { unit with a := 0x10, f := 0x20, h := 0xC1, l := 0x00, pc := 0xC001 } [] = true := by decide

theorem test_R195_adc_a_e :
    runs [0x8B] { unit with a := 0xE1, f := 0x10, e := 0x0F } [] 1
      { unit with a := 0xF1, f := 0x20, e := 0x0F, pc := 0xC001 } [] = true := by decide

theorem test_R195_adc_0x00plus_0xffplus_1 :
    runs [0xCE, 0xFF] { unit with a := 0x00, f := 0x10 } [] 2
      { unit with a := 0x00, f := 0xB0, pc := 0xC002 } [] = true := by decide

theorem test_R196_adc_a_mem_hl :
    runs [0x8E] { unit with a := 0xE1, f := 0x10, h := 0xC1, l := 0x00 } [(0xC100, 0x1E)] 2
      { unit with a := 0x00, f := 0xB0, h := 0xC1, l := 0x00, pc := 0xC001 } [] = true := by decide

theorem test_R197_adc_a_0x3b :
    runs [0xCE, 0x3B] { unit with a := 0xE1, f := 0x10 } [] 2
      { unit with a := 0x1D, f := 0x10, pc := 0xC002 } [] = true := by decide

theorem test_R198_sub_e :
    runs [0x93] { unit with a := 0x3E, e := 0x3E } [] 1
      { unit with a := 0x00, f := 0xC0, e := 0x3E, pc := 0xC001 } [] = true := by decide

theorem test_R198_sub_0x00minus_0x01 :
    runs [0xD6, 0x01] { unit with a := 0x00 } [] 2
      { unit with a := 0xFF, f := 0x70, pc := 0xC002 } [] = true := by decide

theorem test_R199_sub_mem_hl :
    runs [0x96] { unit with a := 0x3E, h := 0xC1, l := 0x00 } [(0xC100, 0x40)] 2
      { unit with a := 0xFE, f := 0x50, h := 0xC1, l := 0x00, pc := 0xC001 } [] = true := by decide

theorem test_R200_sub_0x0f :
    runs [0xD6, 0x0F] { unit with a := 0x3E } [] 2
      { unit with a := 0x2F, f := 0x60, pc := 0xC002 } [] = true := by decide

theorem test_R201_sbc_a_h :
    runs [0x9C] { unit with a := 0x3B, f := 0x10, h := 0x2A } [] 1
      { unit with a := 0x10, f := 0x40, h := 0x2A, pc := 0xC001 } [] = true := by decide

theorem test_R201_sbc_0x00minus_0xffminus_1 :
    runs [0xDE, 0xFF] { unit with a := 0x00, f := 0x10 } [] 2
      { unit with a := 0x00, f := 0xF0, pc := 0xC002 } [] = true := by decide

theorem test_R202_sbc_a_mem_hl :
    runs [0x9E] { unit with a := 0x3B, f := 0x10, h := 0xC1, l := 0x00 } [(0xC100, 0x4F)] 2
      { unit with a := 0xEB, f := 0x70, h := 0xC1, l := 0x00, pc := 0xC001 } [] = true := by decide

theorem test_R203_sbc_a_0x3a :
    runs [0xDE, 0x3A] { unit with a := 0x3B, f := 0x10 } [] 2
      { unit with a := 0x00, f := 0xC0, pc := 0xC002 } [] = true := by decide

theorem test_R204_and_l :
    runs [0xA5] { unit with a := 0x5A, l := 0x3F } [] 1
      { unit with a := 0x1A, f := 0x20, l := 0x3F, pc := 0xC001 } [] = true := by decide

theorem test_R204_and_a_zero :
    runs [0xA7] { unit with a := 0x00, f := 0x50 } [] 1
      { unit with a := 0x00, f := 0xA0, pc := 0xC001 } [] = true := by decide

theorem test_R205_and_mem_hl :
    runs [0xA6] { unit with a := 0x5A, h := 0xC1, l := 0x00 } [(0xC100, 0x00)] 2
      { unit with a := 0x00, f := 0xA0, h := 0xC1, l := 0x00, pc := 0xC001 } [] = true := by decide

theorem test_R206_and_0x38 :
    runs [0xE6, 0x38] { unit with a := 0x5A } [] 2
      { unit with a := 0x18, f := 0x20, pc := 0xC002 } [] = true := by decide

theorem test_R207_xor_a :
    runs [0xAF] { unit with a := 0xFF, f := 0x70 } [] 1
      { unit with a := 0x00, f := 0x80, pc := 0xC001 } [] = true := by decide

theorem test_R208_xor_mem_hl :
    runs [0xAE] { unit with a := 0xFF, h := 0xC1, l := 0x00 } [(0xC100, 0x8A)] 2
      { unit with a := 0x75, f := 0x00, h := 0xC1, l := 0x00, pc := 0xC001 } [] = true := by decide

theorem test_R209_xor_0x0f :
    runs [0xEE, 0x0F] { unit with a := 0xFF } [] 2
      { unit with a := 0xF0, f := 0x00, pc := 0xC002 } [] = true := by decide

theorem test_R210_or_a :
    runs [0xB7] { unit with a := 0x5A, f := 0xF0 } [] 1
      { unit with a := 0x5A, f := 0x00, pc := 0xC001 } [] = true := by decide

theorem test_R211_or_mem_hl :
    runs [0xB6] { unit with a := 0x5A, h := 0xC1, l := 0x00 } [(0xC100, 0x0F)] 2
      { unit with a := 0x5F, f := 0x00, h := 0xC1, l := 0x00, pc := 0xC001 } [] = true := by decide

theorem test_R212_or_0x00 :
    runs [0xF6, 0x00] { unit with a := 0x00 } [] 2
      { unit with a := 0x00, f := 0x80, pc := 0xC002 } [] = true := by decide

theorem test_R213_cp_b :
    runs [0xB8] { unit with a := 0x3C, b := 0x2F } [] 1
      { unit with a := 0x3C, f := 0x60, b := 0x2F, pc := 0xC001 } [] = true := by decide

theorem test_R214_cp_mem_hl :
    runs [0xBE] { unit with a := 0x3C, h := 0xC1, l := 0x00 } [(0xC100, 0x40)] 2
      { unit with a := 0x3C, f := 0x50, h := 0xC1, l := 0x00, pc := 0xC001 } [] = true := by decide

theorem test_R215_cp_0x3c :
    runs [0xFE, 0x3C] { unit with a := 0x3C } [] 2
      { unit with a := 0x3C, f := 0xC0, pc := 0xC002 } [] = true := by decide

theorem test_R216_inc_a_wraps :
    runs [0x3C] { unit with a := 0xFF, f := 0x00 } [] 1
      { unit with a := 0x00, f := 0xA0, pc := 0xC001 } [] = true := by decide

theorem test_R216_inc_b_keeps_cf :
    runs [0x04] { unit with f := 0xD0, b := 0x0F } [] 1
      { unit with f := 0x30, b := 0x10, pc := 0xC001 } [] = true := by decide

theorem test_R217_inc_mem_hl :
    runs [0x34] { unit with f := 0x40, h := 0xC1, l := 0x00 } [(0xC100, 0x50)] 3
      { unit with f := 0x00, h := 0xC1, l := 0x00, pc := 0xC001 } [(0xC100, 0x51)] = true := by decide

theorem test_R217_inc_mem_hl_on_rom :
    runs [0x34] { unit with f := 0x00, h := 0x00, l := 0x00 } [] 3
      { unit with f := 0x00, h := 0x00, l := 0x00, pc := 0xC001 } [(0x0000, 0x00)] = true := by decide

theorem test_R218_dec_l :
    runs [0x2D] { unit with f := 0x10, l := 0x01 } [] 1
      { unit with f := 0xD0, l := 0x00, pc := 0xC001 } [] = true := by decide

theorem test_R218_dec_a_0x00 :
    runs [0x3D] { unit with a := 0x00, f := 0x00 } [] 1
      { unit with a := 0xFF, f := 0x60, pc := 0xC001 } [] = true := by decide

theorem test_R219_dec_mem_hl :
    runs [0x35] { unit with f := 0x00, h := 0xC1, l := 0x00 } [(0xC100, 0x00)] 3
      { unit with f := 0x60, h := 0xC1, l := 0x00, pc := 0xC001 } [(0xC100, 0xFF)] = true := by decide

theorem test_R220_daa_after_add :
    runs [0x27] { unit with a := 0x7D, f := 0x00 } [] 1
      { unit with a := 0x83, f := 0x00, pc := 0xC001 } [] = true := by decide

theorem test_R220_daa_after_sub :
    runs [0x27] { unit with a := 0x4B, f := 0x60 } [] 1
      { unit with a := 0x45, f := 0x40, pc := 0xC001 } [] = true := by decide

theorem test_R221_cpl :
    runs [0x2F] { unit with a := 0x35, f := 0x90 } [] 1
      { unit with a := 0xCA, f := 0xF0, pc := 0xC001 } [] = true := by decide

theorem test_R222_scf :
    runs [0x37] { unit with f := 0xE0 } [] 1
      { unit with f := 0x90, pc := 0xC001 } [] = true := by decide

theorem test_R223_ccf_set :
    runs [0x3F] { unit with f := 0x70 } [] 1
      { unit with f := 0x00, pc := 0xC001 } [] = true := by decide

theorem test_R223_ccf_clear :
    runs [0x3F] { unit with f := 0x80 } [] 1
      { unit with f := 0x90, pc := 0xC001 } [] = true := by decide

theorem test_R230_add_hl_bc :
    runs [0x09] { unit with f := 0xC0, b := 0x06, c := 0x05, h := 0x8A, l := 0x23 } [] 2
      { unit with f := 0xA0, b := 0x06, c := 0x05, h := 0x90, l := 0x28, pc := 0xC001 } [] = true := by decide

theorem test_R230_add_hl_sp_to_zero :
    runs [0x39] { unit with f := 0x00, h := 0x00, l := 0x01, sp := 0xFFFF } [] 2
      { unit with f := 0x30, h := 0x00, l := 0x00, sp := 0xFFFF, pc := 0xC001 } [] = true := by decide

theorem test_R231_inc_de :
    runs [0x13] { unit with f := 0xF0, d := 0x23, e := 0x5F } [] 2
      { unit with f := 0xF0, d := 0x23, e := 0x60, pc := 0xC001 } [] = true := by decide

theorem test_R232_dec_bc :
    runs [0x0B] { unit with f := 0x00, b := 0x00, c := 0x01 } [] 2
      { unit with f := 0x00, b := 0x00, c := 0x00, pc := 0xC001 } [] = true := by decide

theorem test_R233_add_sp_plus_2 :
    runs [0xE8, 0x02] { unit with f := 0xF0, sp := 0xFFF8 } [] 4
      { unit with f := 0x00, sp := 0xFFFA, pc := 0xC002 } [] = true := by decide

theorem test_R233_add_sp_minus_1_from_1 :
    runs [0xE8, 0xFF] { unit with sp := 0x0001 } [] 4
      { unit with f := 0x30, sp := 0x0000, pc := 0xC002 } [] = true := by decide

theorem test_R240_rlca :
    runs [0x07] { unit with a := 0x85, f := 0xE0 } [] 1
      { unit with a := 0x0B, f := 0x10, pc := 0xC001 } [] = true := by decide

theorem test_R241_rrca :
    runs [0x0F] { unit with a := 0x3B } [] 1
      { unit with a := 0x9D, f := 0x10, pc := 0xC001 } [] = true := by decide

theorem test_R242_rla :
    runs [0x17] { unit with a := 0x80, f := 0x00 } [] 1
      { unit with a := 0x00, f := 0x10, pc := 0xC001 } [] = true := by decide

theorem test_R242_rla_carry_in :
    runs [0x17] { unit with a := 0x95, f := 0x10 } [] 1
      { unit with a := 0x2B, f := 0x10, pc := 0xC001 } [] = true := by decide

theorem test_R243_rra :
    runs [0x1F] { unit with a := 0x81, f := 0x00 } [] 1
      { unit with a := 0x40, f := 0x10, pc := 0xC001 } [] = true := by decide

theorem test_R244_rlc_b :
    runs [0x00] { unit with b := 0x85, prefixedPending := true } [] 1
      { unit with f := 0x10, b := 0x0B, pc := 0xC001, prefixedPending := false } [] = true := by decide

theorem test_R245_rlc_mem_hl :
    runs [0x06] { unit with h := 0xC1, l := 0x00, prefixedPending := true } [(0xC100, 0x00)] 3
      { unit with f := 0x80, h := 0xC1, l := 0x00, pc := 0xC001, prefixedPending := false } [(0xC100, 0x00)] = true := by decide

theorem test_R246_rrc_c :
    runs [0x09] { unit with c := 0x01, prefixedPending := true } [] 1
      { unit with f := 0x10, c := 0x80, pc := 0xC001, prefixedPending := false } [] = true := by decide

theorem test_R247_rrc_mem_hl :
    runs [0x0E] { unit with h := 0xC1, l := 0x00, prefixedPending := true } [(0xC100, 0x00)] 3
      { unit with f := 0x80, h := 0xC1, l := 0x00, pc := 0xC001, prefixedPending := false } [(0xC100, 0x00)] = true := by decide

theorem test_R248_rl_l :
    runs [0x15] { unit with f := 0x00, l := 0x80, prefixedPending := true } [] 1
      { unit with f := 0x90, l := 0x00, pc := 0xC001, prefixedPending := false } [] = true := by decide

theorem test_R249_rl_mem_hl :
    runs [0x16] { unit with f := 0x00, h := 0xC1, l := 0x00, prefixedPending := true } [(0xC100, 0x11)] 3
      { unit with f := 0x00, h := 0xC1, l := 0x00, pc := 0xC001, prefixedPending := false } [(0xC100, 0x22)] = true := by decide

theorem test_R250_rr_a :
    runs [0x1F] { unit with a := 0x01, f := 0x00, prefixedPending := true } [] 1
      { unit with a := 0x00, f := 0x90, pc := 0xC001, prefixedPending := false } [] = true := by decide

theorem test_R251_rr_mem_hl :
    runs [0x1E] { unit with f := 0x00, h := 0xC1, l := 0x00, prefixedPending := true } [(0xC100, 0x8A)] 3
      { unit with f := 0x00, h := 0xC1, l := 0x00, pc := 0xC001, prefixedPending := false } [(0xC100, 0x45)] = true := by decide

theorem test_R252_sla_d :
    runs [0x22] { unit with d := 0x80, prefixedPending := true } [] 1
      { unit with f := 0x90, d := 0x00, pc := 0xC001, prefixedPending := false } [] = true := by decide

theorem test_R253_sla_mem_hl :
    runs [0x26] { unit with h := 0xC1, l := 0x00, prefixedPending := true } [(0xC100, 0xFF)] 3
      { unit with f := 0x10, h := 0xC1, l := 0x00, pc := 0xC001, prefixedPending := false } [(0xC100, 0xFE)] = true := by decide

theorem test_R254_sra_a :
    runs [0x2F] { unit with a := 0x8A, prefixedPending := true } [] 1
      { unit with a := 0xC5, f := 0x00, pc := 0xC001, prefixedPending := false } [] = true := by decide

theorem test_R254_sra_b_0x81 :
    runs [0x28] { unit with b := 0x81, prefixedPending := true } [] 1
      { unit with f := 0x10, b := 0xC0, pc := 0xC001, prefixedPending := false } [] = true := by decide

theorem test_R255_sra_mem_hl :
    runs [0x2E] { unit with h := 0xC1, l := 0x00, prefixedPending := true } [(0xC100, 0x01)] 3
      { unit with f := 0x90, h := 0xC1, l := 0x00, pc := 0xC001, prefixedPending := false } [(0xC100, 0x00)] = true := by decide

theorem test_R256_swap_a :
    runs [0x37] { unit with a := 0xF0, f := 0x10, prefixedPending := true } [] 1
      { unit with a := 0x0F, f := 0x00, pc := 0xC001, prefixedPending := false } [] = true := by decide

theorem test_R256_swap_a_zero :
    runs [0x37] { unit with a := 0x00, prefixedPending := true } [] 1
      { unit with a := 0x00, f := 0x80, pc := 0xC001, prefixedPending := false } [] = true := by decide

theorem test_R257_swap_mem_hl :
    runs [0x36] { unit with h := 0xC1, l := 0x00, prefixedPending := true } [(0xC100, 0x12)] 3
      { unit with f := 0x00, h := 0xC1, l := 0x00, pc := 0xC001, prefixedPending := false } [(0xC100, 0x21)] = true := by decide

theorem test_R258_srl_a :
    runs [0x3F] { unit with a := 0x01, prefixedPending := true } [] 1
      { unit with a := 0x00, f := 0x90, pc := 0xC001, prefixedPending := false } [] = true := by decide

theorem test_R259_srl_mem_hl :
    runs [0x3E] { unit with h := 0xC1, l := 0x00, prefixedPending := true } [(0xC100, 0xFF)] 3
      { unit with f := 0x10, h := 0xC1, l := 0x00, pc := 0xC001, prefixedPending := false } [(0xC100, 0x7F)] = true := by decide

theorem test_R260_bit_7_a :
    runs [0x7F] { unit with a := 0x80, f := 0x10, prefixedPending := true } [] 1
      { unit with a := 0x80, f := 0x30, pc := 0xC001, prefixedPending := false } [] = true := by decide

theorem test_R260_bit_0_a :
    runs [0x47] { unit with a := 0x80, f := 0x00, prefixedPending := true } [] 1
      { unit with a := 0x80, f := 0xA0, pc := 0xC001, prefixedPending := false } [] = true := by decide

theorem test_R261_bit_4_mem_hl :
    runs [0x66] { unit with f := 0x40, h := 0xC1, l := 0x00, prefixedPending := true } [(0xC100, 0x10)] 2
      { unit with f := 0x20, h := 0xC1, l := 0x00, pc := 0xC001, prefixedPending := false } [(0xC100, 0x10)] = true := by decide

theorem test_R262_res_7_a :
    runs [0xBF] { unit with a := 0xFF, f := 0xF0, prefixedPending := true } [] 1
      { unit with a := 0x7F, f := 0xF0, pc := 0xC001, prefixedPending := false } [] = true := by decide

theorem test_R263_res_3_mem_hl :
    runs [0x9E] { unit with h := 0xC1, l := 0x00, prefixedPending := true } [(0xC100, 0xFF)] 3
      { unit with h := 0xC1, l := 0x00, pc := 0xC001, prefixedPending := false } [(0xC100, 0xF7)] = true := by decide

theorem test_R264_set_7_l :
    runs [0xFD] { unit with l := 0x3B, prefixedPending := true } [] 1
      { unit with f := 0x00, l := 0xBB, pc := 0xC001, prefixedPending := false } [] = true := by decide

theorem test_R265_set_3_mem_hl :
    runs [0xDE] { unit with h := 0xC1, l := 0x00, prefixedPending := true } [(0xC100, 0x00)] 3
      { unit with h := 0xC1, l := 0x00, pc := 0xC001, prefixedPending := false } [(0xC100, 0x08)] = true := by decide

theorem test_R271_jp_0x0150 :
    runs [0xC3, 0x50, 0x01] unit [] 4
      { unit with pc := 0x0150 } [] = true := by decide

theorem test_R272_jp_hl :
    runs [0xE9] { unit with h := 0xC0, l := 0x00 } [] 1
      { unit with h := 0xC0, l := 0x00, pc := 0xC000 } [] = true := by decide

theorem test_R273_jp_z_taken :
    runs [0xCA, 0x00, 0x02] { unit with f := 0x80 } [] 4
      { unit with f := 0x80, pc := 0x0200 } [] = true := by decide

theorem test_R273_jp_z_not_taken :
    runs [0xCA, 0x00, 0x02] { unit with f := 0x00 } [] 3
      { unit with f := 0x00, pc := 0xC003 } [] = true := by decide

theorem test_R274_jr_minus_3 :
    runs [0x18, 0xFD] unit [] 3
      { unit with pc := 0xBFFF } [] = true := by decide

theorem test_R274_jr_minus_128 :
    runs [0x18, 0x80] unit [] 3
      { unit with pc := 0xBF82 } [] = true := by decide

theorem test_R275_jr_nz_taken :
    runs [0x20, 0xFB] { unit with f := 0x00 } [] 3
      { unit with f := 0x00, pc := 0xBFFD } [] = true := by decide

theorem test_R275_jr_nz_not_taken :
    runs [0x20, 0xFB] { unit with f := 0x80 } [] 2
      { unit with f := 0x80, pc := 0xC002 } [] = true := by decide

theorem test_R276_call_0x0200 :
    runs [0xCD, 0x00, 0x02] { unit with sp := 0xFFFE } [] 6
      { unit with sp := 0xFFFC, pc := 0x0200 } [(0xFFFD, 0xC0), (0xFFFC, 0x03)] = true := by decide

theorem test_R277_call_nz_not_taken :
    runs [0xC4, 0x00, 0x02] { unit with f := 0x80, sp := 0xFFFE } [] 3
      { unit with f := 0x80, sp := 0xFFFE, pc := 0xC003 } [] = true := by decide

theorem test_R278_ret :
    runs [0xC9] { unit with sp := 0xFFFC } [(0xFFFC, 0x53), (0xFFFD, 0x01)] 4
      { unit with sp := 0xFFFE, pc := 0x0153 } [] = true := by decide

theorem test_R279_ret_z_taken :
    runs [0xC8] { unit with f := 0x80, sp := 0xFFFC } [(0xFFFC, 0x53), (0xFFFD, 0x01)] 5
      { unit with f := 0x80, sp := 0xFFFE, pc := 0x0153 } [] = true := by decide

theorem test_R279_ret_z_not_taken :
    runs [0xC8] { unit with f := 0x00, sp := 0xFFFC } [] 2
      { unit with f := 0x00, sp := 0xFFFC, pc := 0xC001 } [] = true := by decide

theorem test_R280_reti :
    runs [0xD9] { unit with sp := 0xFFFC, ime := false } [(0xFFFC, 0x53), (0xFFFD, 0x01)] 4
      { unit with sp := 0xFFFE, pc := 0x0153, ime := true } [] = true := by decide

theorem test_R283_rst_0x28 :
    runs [0xEF] { unit with sp := 0xFFFE } [] 4
      { unit with sp := 0xFFFC, pc := 0x0028 } [(0xFFFD, 0xC0), (0xFFFC, 0x01)] = true := by decide

theorem test_R290_nop :
    runs [0x00] { unit with f := 0xF0 } [] 1
      { unit with f := 0xF0, pc := 0xC001 } [] = true := by decide

theorem test_R291_halt :
    runs [0x76] unit [] 1
      { unit with pc := 0xC001, halted := true } [] = true := by decide

theorem test_R293_di :
    runs [0xF3] { unit with ime := true, imeSched := true } [] 1
      { unit with pc := 0xC001, ime := false, imeSched := false } [] = true := by decide

theorem test_R294_ei :
    runs [0xFB] { unit with ime := false } [] 1
      { unit with pc := 0xC001, ime := false, imeSched := true } [] = true := by decide

theorem test_R296_prefix_alone :
    runs [0xCB] unit [] 1
      { unit with pc := 0xC001, prefixedPending := true } [] = true := by decide
/-! ### Scenarios of 95_test_vectors.md section 3 and boundary cases of the rules -/

/-- STOP and an unused opcode end the run as the vectors of section 2.7 say. -/
theorem test_R292_R297_terminal :
    (match step (probe [0x10, 0x00] unit) with
      | .fault (.stopped pc t) => pc == 0xC002 && t.cpu.pc == 0xC002 && t.clk == 4
      | _ => false) = true ∧
    (match step (probe [0xD3] unit) with
      | .fault (.illegalOpcode op pc t) => op == 0xD3 && pc == 0xC000 && t.cpu.pc == 0xC001 && t.clk == 4
      | _ => false) = true := by decide

/-- Under the alternatives D14 and U1 name both are no-ops. -/
theorem test_R292_R297_no_op :
    let p : Params := { Config.params with stopOutcome := .noOp, illegalOutcome := .noOp }
    ranTo (step { probe [0x10, 0x00] unit with params := p }) (fun t => t.cpu.pc == 0xC002) = true ∧
    ranTo (step { probe [0xFD] unit with params := p }) (fun t => t.cpu.pc == 0xC001) = true := by decide

/-- S4: vertical blank is dispatched before the timer. -/
theorem test_S4_priority :
    ranTo (step { probe [] { unit with pc := 0xC123, ime := true } with ie := 0b00101, iflag := 0b00101 })
      (fun t => t.cpu == { unit with pc := 0x0041, sp := 0xDFEE, opAddr := 0x0040 } && t.iflag == 0b00100 &&
        t.clk == 24 && t.peek 0xDFEF == 0xC1 && t.peek 0xDFEE == 0x23) = true := by decide

/-- S4: the push of the high byte into IE cancels the dispatch. -/
theorem test_S4_cancelled :
    ranTo (step { probe [] { unit with pc := 0x1234, sp := 0x0000, ime := true } with ie := 0b00100, iflag := 0b00100 })
      (fun t => t.cpu == { unit with pc := 0x0001, sp := 0xFFFE, opAddr := 0x0000 } && t.iflag == 0b00100 &&
        t.ie == 0x12 && t.clk == 24) = true := by decide

/-- S5, step 2: the enable scheduled by EI takes effect after the dispatch check. -/
theorem test_S5_delayed_enable :
    ranTo (step { probe [0xFB, 0x3C] { unit with pc := 0xC001, imeSched := true } with ie := 0b00100, iflag := 0b00100 })
      (fun t => t.cpu == { unit with pc := 0xC002, a := 0x01, ime := true, opAddr := 0xC001 } &&
        t.iflag == 0b00100) = true := by decide

/-- S6 a, step 2: the halt bug fetches INC A without advancing pc. -/
theorem test_S6_halt_bug :
    ranTo (step { probe [0x76, 0x3C] { unit with pc := 0xC001, halted := true } with ie := 0b00100, iflag := 0b00100 })
      (fun t => t.cpu == { unit with pc := 0xC001, a := 0x01, opAddr := 0xC001 } && t.iflag == 0b00100) = true := by
  decide

/-- S6 b: the operand fetch after a halt-bug opcode fetch reads the opcode's byte again. -/
theorem test_S6_halt_bug_operand :
    ranTo (step { probe [0x76, 0x3E, 0x3E] { unit with pc := 0xC001, halted := true } with ie := 0b00100, iflag := 0b00100 })
      (fun t => t.cpu == { unit with pc := 0xC002, a := 0x3E, opAddr := 0xC001 }) = true := by decide

/-- S6 c: a halted step with nothing pending is four ticks and no fetch. -/
theorem test_S6_idle :
    ranTo (step (probe [0x76] { unit with pc := 0xC001, halted := true }))
      (fun t => t.cpu == { unit with pc := 0xC001, halted := true } && t.clk == 4) = true := by decide

/-- S2: the falling edges of tick 16 and tick 32. -/
theorem test_S2_edges :
    let t15 : Timer := { Timer.reset with div := 0x000F, tac := 0b101, tima := 0xFE, tma := 0x80, prevAnd := true }
    let t31 : Timer := { t15 with div := 0x001F, tima := 0xFF }
    t15.tick = ({ t15 with div := 0x0010, tima := 0xFF, prevAnd := false }, false) ∧
    t31.tick = ({ t31 with div := 0x0020, tima := 0x00, prevAnd := false, tstate := .pending }, false) := by decide

/-- S2: ticks 33 to 37, the reload and the request at tick 36. -/
theorem test_S2_reload :
    let t32 : Timer := { Timer.reset with div := 0x0020, tac := 0b101, tma := 0x80, tstate := .pending }
    let t33 := t32.tick.1
    let t35 := t33.tick.1.tick.1
    t33.tcycles = 1 ∧ t35.tcycles = 3 ∧ t35.tima = 0x00 ∧ t35.tick.1.tima = 0x80 ∧ t35.tick.2 = true ∧
    t35.tick.1.tcycles = 4 ∧ t35.tick.1.tick.1.tstate = .normal := by decide

/-- S2: a write of TIMA in the pending interval cancels the reload; a write of TAC that disables counts at once. -/
theorem test_S2_writes :
    ({ Timer.reset with tima := 0x00, tma := 0x80, tstate := .pending, tcycles := 3 } : Timer).writeTima 0x55 =
      { Timer.reset with tima := 0x55, tma := 0x80 } ∧
    (({ Timer.reset with div := 8, tac := 0b101, prevAnd := true, tima := 0x10 } : Timer).writeTac 0x01).tima = 0x11 ∧
    ({ Timer.reset with div := 8, tac := 0b101, prevAnd := true, tima := 0x10 } : Timer).writeDiv.tima = 0x10 := by decide

/-- S3: the trigger's start delay, and the copy of the last byte. -/
theorem test_S3_dma :
    let s := (probe [0x5A] unit).stored 0xFF46 0xC0
    (s.after (ticks 4)).dma = { src := 0xC000, dst := 0xFE00, wait := 0, active := true, reg := 0xC0 } ∧
    (s.after (ticks 4)).peek 0xFE00 = 0x00 ∧ (s.after (ticks 5)).peek 0xFE00 = 0x5A := by decide

/-- The address decoder at the ends of its regions (R80). -/
theorem test_R80_regions :
    [0x0000, 0x7FFF, 0x8000, 0x9FFF, 0xA000, 0xBFFF, 0xC000, 0xDFFF, 0xE000, 0xFDFF, 0xFE00, 0xFE9F, 0xFEA0, 0xFEFF,
      0xFF00, 0xFF7F, 0xFF80, 0xFFFE, 0xFFFF].map region =
    [.romWindow, .romWindow, .vram, .vram, .extRam, .extRam, .wram, .wram, .prohibited, .prohibited, .oam, .oam,
      .prohibited, .prohibited, .io, .io, .hram, .hram, .ieRegister] := by decide

/-- A memory keeps its canonical form, and writing what an unlisted byte reads as unlists the address. -/
theorem test_memory_canonical :
    Memory.write (Memory.write (Memory.write (Memory.write [] 5 1) 3 2) 9 4) 5 0 = [(3, 2), (9, 4)] := by decide

/-- The mode after the last tick of the attribute scan, and the scanline after the last tick of a line (R370, R426). -/
theorem test_R426_line :
    ({ Display.reset with dot := 79 } : Display).mode = .scan ∧
    (({ Display.reset with dot := 79 } : Display).tick []).1.mode = .drawing ∧
    (({ Display.reset with mode := .hblank, dot := 455, lx := 160, ly := 143 } : Display).tick []).1.mode = .vblank ∧
    (({ Display.reset with mode := .hblank, dot := 455, lx := 160, ly := 143 } : Display).tick []).2.2 = 0b00001 ∧
    (({ Display.reset with mode := .vblank, dot := 455, ly := 153 } : Display).tick []).1.ly = 0 := by decide

/-- The input register reads pressed lines of a selected group as 0 (R470, R474). -/
theorem test_R470_input :
    let s := (probe [] unit).stored 0xFF00 0x20
    ({ s with joypad := { s.joypad with buttons := { Buttons.released with down := true, a := true } } } : State).peek 0xFF00 =
      0b11100111 := by decide

/-- Slot k of a queue is the entry at (head + k) mod 8: from head 7, the second entry appended wraps to entry 0; popping
moves the head past the end to 0 (R42). -/
theorem test_R42_ring :
    let q : Fifo (BitVec 2) := (({ Fifo.reset 0 with head := 7 } : Fifo (BitVec 2)).append 1).append 2
    q.slots = #v[2, 0, 0, 0, 0, 0, 0, 1] ∧ q.size = 2 ∧ q.slot 0 = 1 ∧ q.slot 1 = 2 ∧ q.pop.head = 0 ∧
    q.pop.first = some 2 ∧ q.pop.pop.first = none := by decide

/-! ### Witnesses: what meets the hypotheses of the statements of Certificates/Slice0/Obligations.lean -/

/-- A banked cartridge without RAM, its enable latch set. -/
def bare : State :=
  let s := probe [0x46] { unit with h := 0xA0, l := 0x00, b := 0xBF, c := 0xFF }
  { s with cart := { s.cart with mapper := .banked, ramEn := true } }

/-- The same with a transfer running, from work RAM, at its last byte. -/
def bareWithTransfer : State :=
  { bare with dma := { src := 0xC09F, dst := 0xFE9F, wait := 0, active := true, reg := 0xC0 } }

/-- The state cannot end a run by an access: no transfer runs and the cartridge lacks no RAM. -/
def tame (s : State) : Bool := !s.dma.active && !s.cart.ramless

/-- The shared premises about safe accesses hold in a tame state. -/
theorem tame_safe {s : State} (h : tame s = true) :
    s.chargeSafe ∧ (∀ a, s.accessSafe a) ∧ (∀ a, s.storeSafe a) ∧ s.pushSafe ∧ s.popSafe ∧
    (∀ x : Source, x.safe s) ∧ ∀ x : Place, x.safe s := by
  simp only [tame, Bool.and_eq_true, Bool.not_eq_true'] at h
  have hm : s.cart.ramMissing = false := by
    have h2 := h.2
    simp only [Cart.ramless, Cart.ramMissing] at h2 ⊢
    revert h2
    cases s.cart.ramEn <;> cases decide (s.cart.mapper = .banked) <;> cases decide (s.cart.ramSize = 0) <;> simp
  have hc : s.chargeSafe := by simp [State.chargeSafe, Dma.ok, h.1]
  have ha : ∀ a, s.accessSafe a := fun a => ⟨hc, by simp [hm]⟩
  have hs : ∀ a, s.storeSafe a := fun a => by simp [State.storeSafe, h.2]
  refine ⟨hc, ha, hs, ⟨ha _, hs _, ha _⟩, ⟨ha _, ha _⟩, fun x => ?_, fun x => ?_⟩
  · cases x <;> first | exact ha _ | trivial
  · cases x <;> first | exact ha _ | trivial

/-- Whether an answer is a next state. -/
def completes (r : Answer) : Bool := ranTo r fun _ => true

theorem completes_next {r : Answer} (h : completes r = true) : ∃ t, r = .next t := by
  unfold completes ranTo at h
  split at h <;> first | exact ⟨_, rfl⟩ | contradiction

/-- Whether an answer is a fault. -/
def faults (r : Answer) : Bool :=
  match r with
  | .fault _ => true
  | _ => false

theorem faults_fault {r : Answer} (h : faults r = true) : ∃ f, r = .fault f := by
  unfold faults at h
  split at h <;> first | exact ⟨_, rfl⟩ | contradiction

/-- Whether an operation completes. -/
def succeeds (op : Op Unit) (s : State) : Bool :=
  match op s with
  | .ok _ _ => true
  | .error _ _ => false

theorem succeeds_ok {op : Op Unit} {s : State} (h : succeeds op s = true) : ∃ t, op s = .ok () t := by
  unfold succeeds at h
  split at h <;> first | exact ⟨_, by assumption⟩ | contradiction

/-- The states of the vectors are tame, whatever the program and the CPU. -/
theorem tame_probe : tame (probe [] unit) = true := by decide

theorem witness_DecodeOfEncode :
    (Instr.ldAN 0xFF).wellFormed = true ∧ (Instr.ldAN 0xFF).isSecondTable = false ∧ Instr.ldAN 0xFF ≠ .stop ∧
    Instr.ldAN 0xFF ≠ .prefixCb ∧ Instr.set7A.isSecondTable = true ∧ Instr.stop ≠ .prefixCb := by decide

theorem witness_EncodeOfDecode :
    decode [0x31, 0xFE, 0xFF, 0x00] = .ok (.ldSpNn 0xFFFE, [0x00]) ∧ decode [0x10] = .ok (.stop, []) ∧
    decode [0x10, 0xFF, 0x01] = .ok (.stop, [0x01]) := by decide

theorem witness_StepRunsDecodedInstruction :
    let s := probe [0x31, 0xFE, 0xFF] { unit with imeSched := true }
    s.hostInput = [] ∧ s.cpu.prefixedPending = false ∧ s.cpu.halted = false ∧ s.cpu.haltBug = false ∧
    s.cpu.ime = false ∧ s.chargeSafe ∧ (fetchedBytes (.ldSpNn 0xFFFE)).length = 3 ∧
    (∀ k < 3, s.steady (s.cpu.pc + BitVec.ofNat 16 k)) ∧
    decodeFirst ((List.range 3).map fun k => s.peek (s.cpu.pc + BitVec.ofNat 16 k)) = .ok (.ldSpNn 0xFFFE, []) := by
  unfold State.chargeSafe State.steady
  decide

theorem witness_PrefixedStep :
    let s := probe [0x37] { unit with prefixedPending := true, halted := true, ime := true }
    s.hostInput = [] ∧ s.cpu.prefixedPending = true ∧ s.chargeSafe ∧ s.steady s.cpu.pc := by
  unfold State.chargeSafe State.steady
  decide

theorem witness_HaltedStep :
    let s := probe [0x3E, 0x7F] { unit with halted := true }
    let t : State := { s with ie := 0b10000, iflag := 0b10000 }
    s.hostInput = [] ∧ s.cpu.prefixedPending = false ∧ s.cpu.halted = true ∧ s.chargeSafe ∧ s.ie &&& s.iflag = 0 ∧
    t.hostInput = [] ∧ t.cpu.prefixedPending = false ∧ t.cpu.halted = true ∧ t.chargeSafe ∧ t.cpu.ime = false ∧
    t.ie &&& t.iflag ≠ 0 ∧ ({ t.cpu with ime := true } : Cpu).ime = true ∧ (fetchedBytes (.ldAN 0x3E)).length = 2 ∧
    (∀ k < 2, t.steady (t.cpu.pc + BitVec.ofNat 16 k)) ∧
    decodeFirst (t.peek t.cpu.pc :: (List.range 1).map fun k => t.peek (t.cpu.pc + BitVec.ofNat 16 k)) =
      .ok (.ldAN 0x3E, []) := by
  unfold State.chargeSafe State.steady
  decide

theorem witness_DispatchComesFirst :
    let s : State := { probe [] { unit with ime := true, halted := true } with ie := 0b10000, iflag := 0b10000 }
    s.hostInput = [] ∧ s.cpu.prefixedPending = false ∧ s.cpu.ime = true ∧ s.ie &&& s.iflag ≠ 0 ∧
    ∃ u, dispatch { s with cpu := { s.cpu with halted := false } } = .ok () u :=
  ⟨by decide, by decide, by decide, by decide, by apply succeeds_ok; decide⟩

/-- The lowest source, the highest, and the cancelled dispatch of scenario S4, each in a tame state. -/
theorem witness_DispatchProtocol :
    let s : State := { probe [] { unit with ime := true } with ie := 0b11111, iflag := 0b11111 }
    let t : State := { s with iflag := 0b10000 }
    let u : State := { probe [] { unit with pc := 0x1234, sp := 0x0000 } with ie := 0b00100, iflag := 0b00100 }
    let m : State → BitVec 5 := fun x =>
      (x.pushed 2 x.cpu.pc).iflag &&& ((x.later 3).stored (x.cpu.sp - 1) (hiByte x.cpu.pc)).ie
    tame s = true ∧ tame t = true ∧ tame u = true ∧ (m s).getLsbD 0 = true ∧ m t = 0b10000 ∧ m u = 0 := by decide

/-- A stack at the ends of the storage arrays: FFFE and FFFD, and C000 with 9FFF excluded. -/
theorem witness_DispatchSavesPc :
    let s := probe [] { unit with sp := 0xFFFF }
    s.dma.active = false ∧ isStorage (s.cpu.sp - 1) = true ∧ isStorage (s.cpu.sp - 2) = true ∧
    isStorage 0xFFFC = true ∧ ∃ u, dispatch s = .ok () u :=
  ⟨by decide, by decide, by decide, by decide, by apply succeeds_ok; decide⟩

theorem witness_HostPoll :
    let s : State := { probe [] unit with hostInput := [some { Buttons.released with start := true }, none] }
    s.hostInput = some { Buttons.released with start := true } :: [none] := by decide

theorem witness_EndlessRun :
    let s := probe [] unit
    ({ s with params := { s.params with stopOutcome := .noOp, illegalOutcome := .noOp } } : State).endless := by
  unfold State.endless
  decide

theorem witness_TerminalOutcomes :
    (∃ f, step (probe [0xFD] unit) = .fault f) ∧ (∃ f, step (probe [0x10] unit) = .fault f) ∧
    (∃ f, step bare = .fault f) :=
  ⟨by apply faults_fault; decide, by apply faults_fault; decide, by apply faults_fault; decide⟩

theorem witness_displayInv : ({ Display.reset with dot := 79, ly := 143 } : Display).Inv :=
  { ly := by decide, lx := by decide, dot := by decide, sprites := by decide, spriteX := by decide, asked := by decide
    fSub := by decide, layer := nofun, discard := by decide, bgFifo := by decide, spFifo := by decide
    vblank := by decide, vblankColumn := by decide, scan := by decide, drawing := by decide }

theorem witness_StepKeepsInvariant :
    let s : State := { probe [] unit with
      display := { Display.reset with dot := 79, ly := 143 }
      dma := { src := 0xC000, dst := 0xFE00, wait := 4, active := true, reg := 0xC0 } }
    s.Inv ∧ ∃ t, step s = .next t :=
  ⟨{ cpu := { lowFlags := by decide, haltBugUsed := by decide, oneMode := by decide }
     devices :=
      { mem := { wf := by decide, storage := by decide }
        timer := { notAborted := by decide, idleCount := by decide, pendingCount := by decide }
        display := witness_displayInv
        dma := { cursors := by decide, wait := by decide }
        cart := { rom := by decide, ram := by decide, ramWithin := by decide, bank1 := by decide } } },
    by apply completes_next; decide⟩

theorem witness_StepKeepsConfiguration : ∃ t, step (probe [0xCD, 0x00, 0x02] unit) = .next t :=
  by apply completes_next; decide

/-- A conditional form taken and not taken, and a form of the second table. -/
theorem witness_CycleCost :
    (∃ t, exec (.callNzNn 0x0200) (probe [] unit) = .next t) ∧
    (∃ t, exec (.callNzNn 0x0200) (probe [] { unit with f := 0x80 }) = .next t) ∧
    (∃ t, exec .set7MemHl (probe [] { unit with h := 0xC1 }) = .next t) :=
  ⟨by apply completes_next; decide, by apply completes_next; decide, by apply completes_next; decide⟩

/-- An image of the smallest and one of a larger banked size load; the decided reset values are values of RESET_*. -/
theorem witness_ResetState :
    (∃ c, Cart.load [] 32768 [] = .ok c) ∧ (∃ c, Cart.load [(0x0147, 0x03), (0x0149, 0x03)] 2097152 [] = .ok c) ∧
    ({ Config.resetValues with div := 0xABCC } : ResetValues) = Config.resetValues :=
  ⟨⟨_, rfl⟩, ⟨_, rfl⟩, rfl⟩

theorem witness_TicksFrame : bare.chargeSafe ∧ bareWithTransfer.chargeSafe := by
  unfold State.chargeSafe
  decide

theorem witness_StorageReadsBack :
    [0x8000, 0x9FFF, 0xC000, 0xDFFF, 0xFE00, 0xFE9F, 0xFF80, 0xFFFE].all isStorage = true ∧
    (0x8000 : Addr) ≠ 0x9FFF ∧ Memory.wf [(0x8000, 1), (0xFFFE, 2)] = true := by decide

/-- Each clause's range at its ends; `probe`'s cartridge lacks no RAM. -/
theorem witness_AddressMap :
    (0x7FFF : Addr).toNat < 0x8000 ∧ (0x8000 ≤ (0x8000 : Addr).toNat ∧ (0x9FFF : Addr).toNat < 0xA000) ∧
    (0xFF80 ≤ (0xFF80 : Addr).toNat ∧ (0xFFFE : Addr).toNat < 0xFFFF) ∧
    (0xA000 ≤ (0xA000 : Addr).toNat ∧ (0xBFFF : Addr).toNat < 0xC000) ∧ (probe [] unit).cart.ramMissing = false ∧
    (0xE000 ≤ (0xE000 : Addr).toNat ∧ (0xFDFF : Addr).toNat < 0xFE00) ∧
    (0xFEA0 ≤ (0xFEA0 : Addr).toNat ∧ (0xFEFF : Addr).toNat < 0xFF00) ∧ (0xFFFF : Addr).toNat = 0xFFFF := by decide

/-- Unmapped addresses of the I/O page at its ends, and 0xFF03 where it is not mapped. -/
theorem witness_IoReads :
    let mapped : List Addr := [0xFF00, 0xFF04, 0xFF05, 0xFF06, 0xFF07, 0xFF0F, 0xFF40, 0xFF41, 0xFF42, 0xFF43, 0xFF44,
      0xFF45, 0xFF46, 0xFF47, 0xFF48, 0xFF49, 0xFF4A, 0xFF4B]
    Config.params.divLoMapped = true ∧ ({ Config.params with divLoMapped := false } : Params).divLoMapped = false ∧
    ([0xFF01, 0xFF03, 0xFF4C, 0xFF7F] : List Addr).all (fun a => decide (a ∉ mapped ∧ 0xFF00 ≤ a.toNat ∧
      a.toNat < 0xFF80 ∧ Config.params.audioStubAddr ≠ some a)) = true := by decide

/-- The RAM window at its ends, through each register that can point there, and the latch clear. -/
theorem witness_NoRamFault :
    bare.cart.ramMissing = true ∧ bare.dma.active = false ∧ region bare.cpu.hl = .extRam ∧
    Instr.ldBMemHl.form = .ldRegMem .b ∧ Instr.ldAMemBc.form = .loadA (.pair .bc) ∧
    region ((Pointer.pair .bc).addr bare.cpu) = .extRam ∧ Instr.set0MemHl.form = .set 0 .memHl ∧
    (Instr.ldMemNnSp 0xA000).form = .ldMemSp 0xA000 ∧ region 0xA000 = .extRam ∧
    Instr.popAf.form = .pop .af ∧ Instr.ret.form = .ret ∧ Instr.reti.form = .reti ∧
    Instr.pushBc.form = .push .bc ∧ (Instr.callNn 0).form = .call 0 ∧ Instr.rst38.form = .rst 7 ∧
    (let s : State := { bare with cpu := { bare.cpu with sp := 0xA000, f := 0x80 } }
     s.cart.ramMissing = true ∧ s.dma.active = false ∧ region s.cpu.sp = .extRam ∧
     Instr.retZ.form = .retCond .z ∧ s.cpu.cond .z = true) ∧
    (let s : State := { bare with cpu := { bare.cpu with sp := 0xC000 } }
     s.cart.ramMissing = true ∧ s.dma.active = false ∧ region (s.cpu.sp - 1) = .extRam ∧
     (Instr.callNzNn 0).form = .callCond .nz 0 ∧ s.cpu.cond .nz = true) ∧
    (let s : State := { bare with cart := { bare.cart with ramEn := false } }
     s.cart.mapper = .banked ∧ s.cart.ramEn = false ∧ region 0xBFFF = .extRam) := by decide

theorem witness_RegisterLoads :
    Instr.ldBC.form = .ldRegReg .b .c ∧ Instr.ldAA.form = .ldRegReg .a .a ∧
    (Instr.ldHN 0xFF).form = .ldRegImm .h 0xFF := by decide

/-- `probe`'s states are tame (`tame_safe`), so every address is safe. -/
theorem witness_MemoryLoads :
    tame (probe [] { unit with h := 0xFF, l := 0xFF, c := 0x80 }) = true ∧ Instr.ldLMemHl.form = .ldRegMem .l ∧
    Instr.ldAMemDe.form = .loadA (.pair .de) ∧ (Instr.ldAMemNn 0xA000).form = .loadA (.abs 0xA000) ∧
    Instr.ldhAMemC.form = .loadA .highC ∧ (Instr.ldhAMemN 0xFF).form = .loadA (.high 0xFF) ∧
    Instr.ldAMemHlInc.form = .loadAStep .inc ∧ Instr.ldAMemHlDec.form = .loadAStep .dec := by decide

theorem witness_MemoryStores :
    tame (probe [] { unit with h := 0xFF, l := 0xFF, b := 0xBF, c := 0xFF }) = true ∧
    Instr.ldMemHlL.form = .ldMemReg .l ∧ (Instr.ldMemHlN 0x01).form = .ldMemImm 0x01 ∧
    Instr.ldMemBcA.form = .storeA (.pair .bc) ∧ (Instr.ldMemNnA 0x0000).form = .storeA (.abs 0x0000) ∧
    Instr.ldhMemCA.form = .storeA .highC ∧ (Instr.ldhMemNA 0x46).form = .storeA (.high 0x46) ∧
    Instr.ldMemHlIncA.form = .storeAStep .inc ∧ Instr.ldMemHlDecA.form = .storeAStep .dec ∧
    (Instr.ldMemNnSp 0xFFFF).form = .ldMemSp 0xFFFF := by decide

theorem witness_PairLoads :
    (Instr.ldBcNn 0xFFFF).form = .ldPairImm .bc 0xFFFF ∧ (Instr.ldDeNn 0).form = .ldPairImm .de 0 ∧
    (Instr.ldHlNn 1).form = .ldPairImm .hl 1 ∧ (Instr.ldSpNn 0xFFFE).form = .ldPairImm .sp 0xFFFE ∧
    Instr.ldSpHl.form = .ldSpHl ∧ (Instr.ldHlSpE 0x80).form = .ldHlSp 0x80 ∧ (probe [] unit).chargeSafe := by
  unfold State.chargeSafe
  decide

theorem witness_PushResult :
    (probe [] { unit with sp := 0x0001 }).pushSafe ∧ bare.pushSafe ∧ Instr.pushBc.form = .push .bc ∧
    Instr.pushDe.form = .push .de ∧ Instr.pushHl.form = .push .hl ∧ Instr.pushAf.form = .push .af := by
  unfold State.pushSafe State.accessSafe State.storeSafe State.chargeSafe
  decide

theorem witness_PopResult :
    (probe [] { unit with sp := 0xFFFF }).popSafe ∧ Instr.popBc.form = .pop .bc ∧ Instr.popDe.form = .pop .de ∧
    Instr.popHl.form = .pop .hl ∧ Instr.popAf.form = .pop .af := by
  unfold State.popSafe State.accessSafe State.chargeSafe
  decide

theorem witness_AddAdcResult :
    Instr.adcAMemHl.form = .alu .adc .memHl ∧ Source.memHl.safe (probe [] unit) ∧
    (Instr.addAN 0xFF).form = .alu .add (.imm 0xFF) ∧ Instr.addAB.form = .alu .add (.reg .b) := by
  unfold Source.safe State.accessSafe State.chargeSafe
  decide

theorem witness_SubSbcCpResult :
    Instr.subMemHl.form = .alu .sub .memHl ∧ Source.memHl.safe (probe [] unit) ∧
    Instr.sbcAA.form = .alu .sbc (.reg .a) ∧ (Instr.cpN 0x00).form = .alu .cp (.imm 0x00) := by
  unfold Source.safe State.accessSafe State.chargeSafe
  decide

theorem witness_LogicResult :
    Instr.andMemHl.form = .alu .and .memHl ∧ Source.memHl.safe (probe [] unit) ∧
    Instr.xorA.form = .alu .xor (.reg .a) ∧ (Instr.orN 0x00).form = .alu .or (.imm 0x00) := by
  unfold Source.safe State.accessSafe State.chargeSafe
  decide

theorem witness_IncDecResult :
    Instr.incMemHl.form = .inc8 .memHl ∧ Place.memHl.safe (probe [] unit) ∧ Instr.decA.form = .dec8 (.reg .a) := by
  unfold Place.safe State.accessSafe State.chargeSafe
  decide

theorem witness_AdjustResult :
    Instr.daa.form = .daa ∧ Instr.cpl.form = .cpl ∧ Instr.scf.form = .scf ∧ Instr.ccf.form = .ccf := by decide

theorem witness_PairArithmetic :
    (probe [] unit).chargeSafe ∧ bareWithTransfer.chargeSafe ∧ Instr.addHlSp.form = .addHl .sp ∧
    Instr.incSp.form = .incPair .sp ∧ Instr.decBc.form = .decPair .bc ∧ (Instr.addSpE 0x80).form = .addSp 0x80 := by
  unfold State.chargeSafe
  decide

theorem witness_RotateResult :
    Instr.rra.form = .accRot .rra ∧ Instr.rlcMemHl.form = .rot .rlc .memHl ∧ Place.memHl.safe (probe [] unit) ∧
    Instr.srlA.form = .rot .srl (.reg .a) := by
  unfold Place.safe State.accessSafe State.chargeSafe
  decide

/-- The lowest and the highest bit; the result a clearing of bit 7 of 0xFF asks for exists. -/
theorem witness_BitResult :
    Instr.bit0B.form = .bit 0 (.reg .b) ∧ Instr.res7A.form = .res 7 (.reg .a) ∧ Instr.set7MemHl.form = .set 7 .memHl ∧
    Place.memHl.safe (probe [] unit) ∧
    (∀ k < 8, (0x7F : Byte).getLsbD k = if k = (7 : Fin 8).val then false else (0xFF : Byte).getLsbD k) ∧
    (∀ k < 8, (0x80 : Byte).getLsbD k = if k = (7 : Fin 8).val then true else (0x00 : Byte).getLsbD k) := by
  unfold Place.safe State.accessSafe State.chargeSafe
  decide

theorem witness_JumpResult :
    let s := probe [] { unit with f := 0x80 }
    s.chargeSafe ∧ Instr.jpHl.form = .jpHl ∧ (Instr.jpNn 0xFFFF).form = .jp 0xFFFF ∧
    (Instr.jpZNn 0).form = .jpCond .z 0 ∧ (Instr.jrE 0x80).form = .jr 0x80 ∧ (Instr.jrZE 0x7F).form = .jrCond .z 0x7F ∧
    s.cpu.f.getLsbD 7 = true ∧ (Instr.callNzNn 0).form = .callCond .nz 0 ∧ (Instr.jrNzE 0).form = .jrCond .nz 0 ∧
    (Instr.jpNzNn 0).form = .jpCond .nz 0 ∧ (!s.cpu.f.getLsbD 7) = false := by
  unfold State.chargeSafe
  decide

theorem witness_CallResult :
    let s := probe [] { unit with f := 0x10, sp := 0x0000 }
    s.pushSafe ∧ (Instr.callNn 0x0200).form = .call 0x0200 ∧ (Instr.callCNn 0xFFFF).form = .callCond .c 0xFFFF ∧
    s.cpu.cond .c = true ∧ Instr.rst38.form = .rst 7 ∧ (0x0038 : Addr).toNat = 8 * (7 : Fin 8).val := by
  unfold State.pushSafe State.accessSafe State.storeSafe State.chargeSafe
  decide

theorem witness_ReturnResult :
    let s := probe [] { unit with f := 0x80, sp := 0xFFFF }
    s.popSafe ∧ Instr.ret.form = .ret ∧ Instr.reti.form = .reti ∧ Instr.retZ.form = .retCond .z ∧
    s.cpu.cond .z = true ∧ Instr.retNz.form = .retCond .nz ∧ s.cpu.cond .nz = false := by
  unfold State.popSafe State.accessSafe State.chargeSafe
  decide

theorem witness_StopAndUnusedOpcodes :
    (probe [] unit).params.stopOutcome = .terminal ∧ (probe [] unit).params.illegalOutcome = .fault ∧
    ({ Config.params with stopOutcome := .noOp, illegalOutcome := .noOp } : Params).stopOutcome = .noOp ∧
    ({ Config.params with stopOutcome := .noOp, illegalOutcome := .noOp } : Params).illegalOutcome = .noOp ∧
    Instr.illegalD3.form = .illegal 0xD3 ∧ Instr.illegalFD.form = .illegal 0xFD := by decide

theorem witness_FrameWithoutStores :
    let s := probe [] { unit with h := 0xC1 }
    Instr.adcAMemHl.form.stores s.cpu = [] ∧ s.dma.ok = true ∧ ∃ t, exec .adcAMemHl s = .next t :=
  ⟨by decide, by decide, by apply completes_next; decide⟩

/-- A call whose stack lies in work RAM leaves every other place alone: each clause's premises hold. -/
theorem witness_FrameOfStores :
    let s := probe [] unit
    let stores := (Instr.callNn 0x0200).form.stores s.cpu
    s.dma.ok = true ∧ (∃ t, exec (.callNn 0x0200) s = .next t) ∧ stores = [0xDFEF, 0xDFEE] ∧
    isStorage 0xDFF0 = true ∧ 0xDFF0 ∉ stores ∧ isStorage 0xFE9F = true ∧ region 0xFE9F = .oam ∧
    s.dma.active = false ∧ 0xFF46 ∉ stores ∧ 0xFFFF ∉ stores ∧
    stores.all (fun b => decide (region b ≠ .extRam ∧ region b ≠ .romWindow ∧ region b ≠ .io)) = true :=
  ⟨by decide, by apply completes_next; decide, by decide⟩

theorem witness_TimerTick : Timer.reset.tstate ≠ .pending := by decide

/-- An overflow by a tick, which leaves the divider at a multiple of 16, and one by a write to TAC, which does not; each is
made on a falling edge and is pending after it. -/
theorem witness_TimerReload :
    let u : Timer := { Timer.reset with div := 0x001F, tima := 0xFF, tma := 0x80, tac := 0b101, prevAnd := true }
    let w : Timer := { u with div := 0x002B }
    u.tima = 0xFF ∧ u.prevAnd = true ∧ u.tstate ≠ .pending ∧ w.tima = 0xFF ∧ w.prevAnd = true ∧
    u.tick.1 = { u with div := 0x0020, tima := 0x00, tstate := .pending, prevAnd := false } ∧
    (u.tick.1.div.getLsbD 3 = false ∧ u.tick.1.div.toNat % 16 = 0) ∧
    w.writeTac 0x01 = { w with tac := 0b001, tima := 0x00, tstate := .pending, prevAnd := false } ∧
    (w.writeTac 0x01).tac.getLsbD 2 = false ∧ (w.writeTac 0x01).div.toNat % 16 ≠ 0 := by decide

theorem witness_TimerWrites : (probe [] unit).params.divLoMapped = true := by decide

/-- An idle machine, a waiting one, the last byte of a transfer, and one past its end. -/
theorem witness_DmaMachine :
    let at' : Nat → Addr → State := fun w a =>
      { probe [] unit with dma := { src := a - 0x3E00, dst := a, wait := w, active := true, reg := 0xC0 } }
    (probe [] unit).dma.active = false ∧ (at' 1 0xFE00).dma.active = true ∧ 0 < (at' 1 0xFE00).dma.wait ∧
    (at' 0 0xFEA0).dma.wait = 0 ∧ 0xFE9F < (at' 0 0xFEA0).dma.dst.toNat ∧
    (at' 0 0xFE9F).dma.dst.toNat ≤ 0xFE9F ∧ (at' 0 0xFE9F).dma.ok = true ∧ (at' 0 0xFE9F).accessSafe 0xC09F := by
  unfold State.accessSafe State.chargeSafe
  decide

/-- The last page that can be copied, and one of the RAM window with a cartridge that lacks no RAM. -/
theorem witness_DmaCopiesPage :
    let s : State := { probe [] unit with dma := Dma.trigger 0xFD }
    (0xFD : Byte).toNat < 0xFE ∧ s.dma = Dma.trigger 0xFD ∧ s.cart.ramMissing = false ∧
    bare.cart.ramMissing = true ∧ region (0xC0#8 ++ 0x00#8) ≠ .extRam := by decide

theorem witness_DisplayOff : ({ Display.reset with lcdc := 0x7F } : Display).lcdc.getLsbD 7 = false := by decide

/-- The last tick of the scan, the last of a visible scanline, the last of the frame, and idle ticks of both blanks. -/
theorem witness_FrameStructure :
    let d : Display := { Display.reset with dot := 79, ly := 143 }
    let line : Display := { Display.reset with mode := .hblank, dot := 455, ly := 143, lx := 160, winEngaged := true }
    let frame : Display := { Display.reset with mode := .vblank, dot := 455, ly := 153 }
    (d.Inv ∧ d.lcdc.getLsbD 7 = true) ∧ (line.Inv ∧ line.lcdc.getLsbD 7 = true ∧ line.mode = .hblank ∧ line.dot = 455) ∧
    (frame.Inv ∧ frame.lcdc.getLsbD 7 = true ∧ frame.mode = .vblank ∧ frame.dot = 455 ∧ frame.ly = 153) ∧
    ({ line with dot := 454 } : Display).dot < 455 ∧ ({ frame with ly := 144 } : Display).ly ≠ 153 :=
  ⟨⟨witness_displayInv, by decide⟩,
    ⟨{ ly := by decide, lx := by decide, dot := by decide, sprites := by decide, spriteX := by decide
       asked := by decide, fSub := by decide, layer := nofun, discard := by decide, bgFifo := by decide
       spFifo := by decide, vblank := by decide, vblankColumn := by decide, scan := by decide, drawing := by decide },
      by decide, by decide, by decide⟩,
    ⟨{ ly := by decide, lx := by decide, dot := by decide, sprites := by decide, spriteX := by decide
       asked := by decide, fSub := by decide, layer := nofun, discard := by decide, bgFifo := by decide
       spFifo := by decide, vblank := by decide, vblankColumn := by decide, scan := by decide, drawing := by decide },
      by decide, by decide, by decide, by decide⟩,
    by decide, by decide⟩

theorem witness_FrameOverTicks :
    let s : State := { probe [] unit with display := { Display.reset with dot := 79, ly := 143 } }
    s.display.Inv ∧ s.display.lcdc.getLsbD 7 = true ∧ ∃ t, ticks 4 s = .ok () t :=
  ⟨witness_displayInv, by decide, by apply succeeds_ok; decide⟩

theorem witness_StatEdge : Display.reset.lcdc.getLsbD 7 = true := by decide

/-- The first tick of the scan and the last, with a sprite that is buffered. -/
theorem witness_AttributeScan :
    let d : Display := { Display.reset with dot := 79 }
    let m : Memory := [(0xFE9C, 0x10), (0xFE9D, 0x08)]
    Display.reset.mode = .scan ∧ d.mode = .scan ∧ d.dot % 2 = 1 ∧ d.spr.length < 10 ∧
    m.read (0xFE00 + 4 * (d.dot / 2) + 1) ≠ 0 ∧ (m.read (0xFE00 + 4 * (d.dot / 2))).toNat ≤ d.ly.toNat + 16 := by decide

/-- A fetcher on its first tick, on its second in each state and layer, and waiting for a queue that is not empty. -/
theorem witness_FetchesInVram :
    let d : Display := { Display.reset with fSub := 1, fState := .push, firstFetch := true }
    let w : Display := { d with fSub := 2, fLayer := .win, bgFifo := d.bgFifo.append 3 }
    let p : Display := { d with fSub := 2, fLayer := .spr 9, spFifo := d.spFifo.append transparentPixel }
    Display.reset.fSub = 0 ∧ d.fSub = 1 ∧ w.fSub = 2 ∧ p.fSub = 2 ∧
    Display.reset.fState = .tileNo ∧ ({ d with fState := .dataLo } : Display).fState = .dataLo ∧
    ({ d with fState := .dataHi } : Display).fState = .dataHi ∧ d.fState = .push ∧ d.fLayer = .bg ∧ d.bgFifo.size = 0 ∧
    w.fState = .push ∧ w.fLayer = .win ∧ w.bgFifo.size ≠ 0 ∧ p.fState = .push ∧ p.fLayer = .spr 9 ∧
    p.spFifo.size ≤ 8 ∧ ({ p with spFifo := { p.spFifo with size := 8 } } : Display).spFifo.size ≤ 8 := by decide

/-- A sprite fetch in progress; a sprite reached at the edge of the screen, the second of two; the window reached for the
first time and again; nothing reached; and the mixer on an empty queue, discarding and emitting. -/
theorem witness_PixelMixer :
    let s : Sprite := { y := 16, x := 8, tile := 0, attr := 0 }
    let d : Display := { Display.reset with mode := .drawing, dot := 80, spr := [s, s, { s with x := 168 }] }
    let two : Display := { d with asked := d.asked.set 0 true }
    let all : Display := { two with asked := two.asked.set 1 true }
    let win : Display := { all with lcdc := 0xB1, wyMatched := true, wx := 0x07 }
    let mix : Display := { d with
      bgFifo := d.bgFifo.append 2, spFifo := d.spFifo.append { color := 1, pal := true, bgprio := true } }
    d.dot ≠ 455 ∧ ({ d with fLayer := .spr 2 } : Display).fLayer = .spr 2 ∧
    (two.fLayer = .bg ∧ two.spr[1]? = some s ∧ two.asked[1]? ≠ some true ∧ s.x.toNat ≤ two.lx + 8 ∧
      two.asked[0]? = some true) ∧
    (all.asked[0]? = some true ∧ all.asked[1]? = some true ∧ all.spr[2]? = some { s with x := 168 } ∧
      ¬ (168 : Byte).toNat ≤ all.lx + 8 ∧ all.spr[3]? = none ∧ all.lcdc.getLsbD 5 = false) ∧
    (win.lcdc.getLsbD 5 = true ∧ win.wyMatched = true ∧ win.wx.toNat ≤ win.lx + 7 ∧ win.fLayer ≠ .win ∧
      win.winEngaged = false ∧ ({ win with winEngaged := true } : Display).winEngaged = true) ∧
    d.bgFifo.size = 0 ∧ mix.bgFifo.size ≠ 0 ∧ mix.discard = 0 ∧ 0 < ({ mix with discard := 7 } : Display).discard ∧
    mix.bgFifo.slot 0 = 2 ∧ (mix.spFifo.slot 0).color ≠ 0 := by decide

theorem witness_CartridgeBanks :
    let c : Cart := { Cart.blank with mapper := .banked, ramEn := true, ramSize := 32768, nbanks := 128 }
    Cart.blank.mapper = .noMapper ∧ c.mapper = .banked ∧ c.ramEn = true ∧ c.ramSize ≠ 0 ∧
    bare.cart.ramMissing = true ∧ ({ c with ramEn := false } : Cart).ramEn = false ∧
    (0x1FFF : Addr).toNat < 0x2000 ∧ 0x2000 ≤ (0x2000 : Addr).toNat ∧ (0x3FFF : Addr).toNat < 0x4000 ∧
    0x4000 ≤ (0x4000 : Addr).toNat ∧ (0x5FFF : Addr).toNat < 0x6000 ∧ 0x6000 ≤ (0x6000 : Addr).toNat ∧
    (0x7FFF : Addr).toNat < 0x8000 := by decide

end Sys2Proof.Machine
end

section
/-! Runs that do not end (R16, R334): a step answers a next state or a fault, and every raise shows a state that is not
`endless`. -/

namespace Sys2Proof.Machine

/-! ### Uncharged accesses and relations -/

/-- An uncharged read keeps a relation that holds of the state it leaves, and raises only where the cartridge's RAM is
missing (R489). -/
theorem busRead_sat {R : State → State → Prop} {P : Raise → State → Prop} (refl : ∀ s, R s s) (a : Addr)
    (loaded : ∀ s, R s (s.loaded a)) (missing : ∀ s, s.cart.ramMissing = true → P (.configError .noRam) s) :
    Op.Sat R P (busRead a) := by
  intro s
  by_cases h : s.cart.ramMissing = true ∧ region a = .extRam
  · rw [busRead_error s a h.1 h.2]
    exact ⟨fun _ _ e => (by cases e), fun _ _ e => by cases e; exact ⟨refl s, missing s h.1⟩⟩
  · rw [busRead_ok s a fun hm ha => h ⟨hm, ha⟩]
    exact ⟨fun _ _ e => (by cases e; exact loaded s), fun _ _ e => by cases e⟩

/-- An uncharged write keeps a relation that holds of the state it leaves, and raises only where the cartridge's RAM is
missing (R489). -/
theorem busWrite_sat {R : State → State → Prop} {P : Raise → State → Prop} (refl : ∀ s, R s s) (a : Addr) (v : Byte)
    (stored : ∀ s, R s (s.stored a v)) (missing : ∀ s, s.cart.ramMissing = true → P (.configError .noRam) s) :
    Op.Sat R P (busWrite a v) := by
  intro s
  by_cases h : s.cart.ramMissing = true ∧ region a = .extRam
  · rw [busWrite_error s a v h.1 h.2]
    exact ⟨fun _ _ e => (by cases e), fun _ _ e => by cases e; exact ⟨refl s, missing s h.1⟩⟩
  · rw [busWrite_ok s a v fun hm ha => h ⟨hm, ha⟩]
    exact ⟨fun _ _ e => (by cases e; exact stored s), fun _ _ e => by cases e⟩

/-! ### What decides whether a run can end -/

/-- Two states alike in all that decides whether a run can end: the parameters, and whether the cartridge is a RAM-less
banked one. -/
def State.SameEnding (s t : State) : Prop := t.params = s.params ∧ t.cart.ramless = s.cart.ramless

theorem State.SameEnding.refl (s : State) : s.SameEnding s := ⟨rfl, rfl⟩

theorem State.SameEnding.trans {s t u : State} (h : s.SameEnding t) (h' : t.SameEnding u) : s.SameEnding u :=
  ⟨h'.1.trans h.1, h'.2.trans h.2⟩

theorem State.SameEnding.endless {s t : State} (h : s.SameEnding t) (hs : s.endless) : t.endless := by
  obtain ⟨hp, hc⟩ := h
  unfold State.endless
  rwa [hp, hc]

theorem loaded_sameEnding (s : State) (a : Addr) : s.SameEnding (s.loaded a) := ⟨by simp, by simp⟩

/-- A store can select banks and set the latch, and can write external RAM, but the cartridge's variant and the size of
its RAM stay. -/
theorem stored_sameEnding (s : State) (a : Addr) (v : Byte) : s.SameEnding (s.stored a v) := by
  refine ⟨stored_params s a v, ?_⟩
  rcases (stored_dma_cart s a v).2 with hc | ⟨-, hc⟩ | hc
  · rw [hc]
  · rw [hc, writeRom_ramless]
  · rw [hc, writeRam_ramless]

theorem takeVector_sameEnding (s : State) (ieSnap : BitVec 5) : s.SameEnding (s.takeVector ieSnap) := by
  unfold State.takeVector
  split <;> exact .refl s

theorem hostTurn_sameEnding (s : State) : s.SameEnding s.hostTurn := by
  unfold State.hostTurn
  split <;> exact .refl s

theorem not_endless_of_ramMissing {s : State} (h : s.cart.ramMissing = true) : ¬ s.endless := by
  rintro ⟨-, -, hc⟩
  rw [ramMissing_ramless h] at hc
  cases hc

/-- Every primitive of the machine keeps what decides whether a run can end, and raises only in a state that is not
`endless`: at missing RAM, at a terminal STOP, or at a faulting unused opcode. -/
theorem sameEnding_primitive : Primitive State.SameEnding fun _ s => ¬ s.endless :=
  have trans : ∀ s t u : State, s.SameEnding t → t.SameEnding u → s.SameEnding u := fun _ _ _ => .trans
  have read : ∀ a, Op.Sat State.SameEnding (fun _ s => ¬ s.endless) (busRead a) := fun a =>
    busRead_sat .refl a (loaded_sameEnding · a) fun _ => not_endless_of_ramMissing
  have write : ∀ a v, Op.Sat State.SameEnding (fun _ s => ¬ s.endless) (busWrite a v) := fun a v =>
    busWrite_sat .refl a v (stored_sameEnding · a v) fun _ => not_endless_of_ramMissing
  { refl := .refl
    trans := trans
    cpu := fun s _ => .refl s
    tick := tick_sat trans (fun s => .refl s) (dmaTick_sat .refl trans (fun s _ => .refl s) read write)
      fun s => .refl s
    read := read
    write := write
    stop := fun _ hstop ⟨hs, _, _⟩ => by rw [hstop] at hs; cases hs
    illegal := fun _ _ hfault _ ⟨_, hi, _⟩ => by rw [hfault] at hi; cases hi }

theorem step_sameEnding {s t : State} (e : step s = .next t) : s.SameEnding t :=
  sameEnding_primitive.step takeVector_sameEnding hostTurn_sameEnding e

/-- No step of an `endless` state faults: the state at the raise would be `endless` too. -/
theorem step_ne_fault {s : State} (h : s.endless) (f : Fault) : step s ≠ .fault f := by
  intro e
  obtain ⟨_, t, -, hst, ht⟩ := sameEnding_primitive.step_fault takeVector_sameEnding hostTurn_sameEnding e
  exact ht (hst.endless h)

/-! ### No step refuses -/

theorem answer_ne_refused (op : Op Unit) (s : State) (r : Refusal) : answer op s ≠ .refused r := by
  cases h : op s with
  | ok _ _ => rw [answer_of_ok h]; nofun
  | error _ _ => rw [answer_of_error h]; nofun

/-- The phases before the instruction cannot refuse, and every instruction is answered by the operation of its form. -/
theorem step_ne_refused (s : State) (r : Refusal) : step s ≠ .refused r := by
  unfold step
  split
  · rw [exec_form]
    exact answer_ne_refused _ _ r
  · nofun
  · nofun

end Sys2Proof.Machine

open Sys2Proof.Machine in
/-- Settles O12: the answer to an `endless` state is no refusal and no fault, and the state it goes on with is `endless`
because a step keeps all that decides it. -/
theorem endlessRun : Obligations.EndlessRun := by
  unfold Obligations.EndlessRun
  intro s
  refine ⟨step_ne_refused s, fun h => ?_⟩
  cases e : step s with
  | next t => exact ⟨t, rfl, (step_sameEnding e).endless h⟩
  | fault f => exact absurd e (step_ne_fault h f)
  | refused r => exact absurd e (step_ne_refused s r)

end

section
/-! How many ticks every instruction takes, by its form (R521), and that a step takes whole machine cycles (R72). -/

namespace Sys2Proof.Machine

open Sys2Proof.Laws (fetches)

/-! ### The ticks of an instruction -/

namespace Op.Takes

/-- Looking at the state first takes no time. -/
theorem look_bind {α β : Type} {n : Nat} {f : State → α} {g : α → Op β} (h : ∀ a, Op.Takes n (g a)) :
    Op.Takes n (Machine.look f >>= g) := fun _ b u e => h _ _ b u e

/-- Changing the CPU last takes no time. -/
theorem bind_updateCpu {α : Type} {n : Nat} {x : Op α} {f : α → Cpu → Cpu} (h : Op.Takes n x) :
    Op.Takes n (x >>= fun a => Machine.updateCpu (f a)) := h.bind fun _ => updateCpu _

theorem loadA (a : Addr) : Op.Takes 4 (loadA a) := (memRead a).bind_updateCpu
theorem storeA (a : Addr) : Op.Takes 4 (storeA a) := look_bind fun _ => memWrite a _
theorem jpOp (nn : BitVec 16) : Op.Takes 4 (jpOp nn) := internal.bind_updateCpu
theorem jrOp (e : Byte) : Op.Takes 4 (jrOp e) := internal.bind_updateCpu

/-- A call: one internal cycle and a push. -/
theorem callOp (target : Addr) : Op.Takes 12 (callOp target) :=
  internal.bind (m := 8) fun _ => look_bind fun _ => (push16 _).bind_updateCpu

/-- Memory at HL read, and the CPU changed by it. -/
theorem readHl (f : Byte → Cpu → Cpu) :
    Op.Takes 4 (Machine.look (fun s => s.cpu.hl) >>= fun hl => Machine.memRead hl >>= fun v =>
      Machine.updateCpu (f v)) :=
  look_bind fun _ => (memRead _).bind_updateCpu

/-- Memory at HL read, changed and written back, with the flags of the change. -/
theorem rmw (f : Byte → Flags → Byte) (g : Byte → Flags → Cpu → Cpu) :
    Op.Takes 8 (Machine.look (fun s => s.cpu.hl) >>= fun hl => Machine.memRead hl >>= fun v =>
      Machine.look (fun s => s.cpu.flags) >>= fun x => Machine.memWrite hl (f v x) >>= fun _ =>
        Machine.updateCpu (g v x)) :=
  look_bind fun _ => (memRead _).bind (m := 4) fun _ => look_bind fun _ => (memWrite _ _).bind_updateCpu

/-- Memory at HL read, changed and written back, no flag changed. -/
theorem bitRmw (f : Byte → Byte) :
    Op.Takes 8 (Machine.look (fun s => s.cpu.hl) >>= fun hl => Machine.memRead hl >>= fun v =>
      Machine.memWrite hl (f v)) :=
  look_bind fun _ => (memRead _).bind fun _ => memWrite _ _

/-- STOP takes no time of its own, if it completes at all. -/
theorem stopOp : Op.Takes 0 stopOp :=
  (updateCpu _).bind (m := 0) fun _ => look_bind fun u => by
    cases u.params.stopOutcome with
    | terminal => exact fun _ _ _ e => by cases e
    | noOp => exact pure ()

/-- An unused opcode takes no time of its own, if it completes at all. -/
theorem illegalOp (op : Byte) : Op.Takes 0 (illegalOp op) :=
  look_bind fun u => by
    cases u.params.illegalOutcome with
    | fault => exact fun _ _ _ e => by cases e
    | noOp => exact pure ()

/-- An operation behind a condition takes its time where the condition holds, and none elsewhere. -/
theorem whenCond {cc : Cond} {op : Op Unit} {n : Nat} (h : Op.Takes n op) {s t : State} {a : Unit}
    (e : whenCond cc op s = .ok a t) : t.clk = s.clk + if s.cpu.cond cc then n else 0 := by
  cases hc : s.cpu.cond cc with
  | true => rw [whenCond_true op hc] at e; exact h s a t e
  | false => rw [whenCond_false op hc] at e; cases e; rfl

/-- The same as a cost, of `m` cycles of fetches and `k` more where the condition holds. -/
theorem whenCond_cost {cc : Cond} {op : Op Unit} {k m : Nat} (h : Op.Takes (4 * k) op) {s t : State} {a : Unit}
    (e : Machine.whenCond cc op s = .ok a t) :
    t.clk = s.clk + 4 * ((if s.cpu.cond cc then m + k else m) - m) := by
  rw [h.whenCond e]
  cases s.cpu.cond cc <;> simp

end Op.Takes

/-- What the meaning of an instruction takes: the cost of R521 less the cycles of the fetches before it. -/
theorem formOp_clk (f : Form) : ∀ s a t, formOp f s = .ok a t →
    t.clk = s.clk + 4 * (f.cost (f.taken s.cpu) - fetches f) := by
  cases f with
  | nop => exact Op.Takes.pure ()
  | stop => exact Op.Takes.stopOp
  | illegal op => exact Op.Takes.illegalOp op
  | halt | di | ei | prefixCb | ldRegReg | ldRegImm | ldPairImm | daa | cpl | scf | ccf | accRot | jpHl =>
    exact Op.Takes.of_ok (fun _ => rfl) fun _ => rfl
  | ldRegMem => exact Op.Takes.readHl _
  | ldMemReg | ldMemImm => exact Op.Takes.look_bind fun _ => .memWrite _ _
  | loadA x =>
    cases x with
    | pair | highC => exact Op.Takes.look_bind fun _ => .loadA _
    | abs | high => exact Op.Takes.loadA _
  | storeA x =>
    cases x with
    | pair | highC => exact Op.Takes.look_bind fun _ => .storeA _
    | abs | high => exact Op.Takes.storeA _
  | loadAStep => exact Op.Takes.look_bind fun _ => (Op.Takes.loadA _).bind_updateCpu
  | storeAStep => exact Op.Takes.look_bind fun _ => (Op.Takes.storeA _).bind_updateCpu
  | ldMemSp => exact Op.Takes.look_bind fun _ => (Op.Takes.memWrite _ _).bind fun _ => .memWrite _ _
  | ldSpHl | ldHlSp | addHl | incPair | decPair => exact Op.Takes.internal.bind_updateCpu
  | addSp => exact Op.Takes.internal.bind fun _ => Op.Takes.internal.bind_updateCpu
  | push => exact Op.Takes.internal.bind (m := 8) fun _ => .look_bind fun _ => .push16 _
  | pop => exact Op.Takes.pop16.bind_updateCpu
  | alu _ x =>
    cases x with
    | reg | imm => exact Op.Takes.of_ok (fun _ => rfl) fun _ => rfl
    | memHl => exact Op.Takes.readHl _
  | inc8 x =>
    cases x with
    | reg => exact Op.Takes.of_ok (fun _ => rfl) fun _ => rfl
    | memHl => exact Op.Takes.rmw (fun v x => (inc8 v x).1) _
  | dec8 x =>
    cases x with
    | reg => exact Op.Takes.of_ok (fun _ => rfl) fun _ => rfl
    | memHl => exact Op.Takes.rmw (fun v x => (dec8 v x).1) _
  | rot op x =>
    cases x with
    | reg => exact Op.Takes.of_ok (fun _ => rfl) fun _ => rfl
    | memHl => exact Op.Takes.rmw (fun v x => (rotFlags8 op v x).1) _
  | bit _ x =>
    cases x with
    | reg => exact Op.Takes.of_ok (fun _ => rfl) fun _ => rfl
    | memHl => exact Op.Takes.readHl _
  | res _ x | set _ x =>
    cases x with
    | reg => exact Op.Takes.of_ok (fun _ => rfl) fun _ => rfl
    | memHl => exact Op.Takes.bitRmw _
  | jp nn => exact Op.Takes.jpOp nn
  | jr e => exact Op.Takes.jrOp e
  | call => exact Op.Takes.callOp _
  | rst => exact Op.Takes.callOp _
  | ret => exact Op.Takes.returnOp
  | reti => exact Op.Takes.returnOp.bind_updateCpu
  | jpCond => exact fun _ _ _ => (Op.Takes.jpOp _).whenCond_cost (k := 1) (m := 3)
  | jrCond => exact fun _ _ _ => (Op.Takes.jrOp _).whenCond_cost (k := 1) (m := 2)
  | callCond => exact fun _ _ _ => (Op.Takes.callOp _).whenCond_cost (k := 3) (m := 3)
  | retCond cc =>
    intro s _ _ e
    obtain ⟨_, u, hi, hr⟩ := bind_ok_iff.mp e
    rw [Op.Takes.returnOp.whenCond hr, Op.Takes.internal s _ u hi, (blind_ticks 4).cpu_eq hi]
    simp only [Form.taken]
    cases s.cpu.cond cc <;> rfl

/-- An instruction that completes takes the ticks of its form. -/
theorem exec_clk {i : Instr} {s t : State} (e : exec i s = .next t) :
    t.clk = s.clk + 4 * (i.form.cost (i.form.taken s.cpu) - fetches i.form) := by
  rw [exec_form, answer_next_iff] at e
  exact formOp_clk i.form s () t e

/-! ### The machine cycles of a step -/

/-- An operation that completes takes whole machine cycles, at least `k` of them. -/
def Op.WholeCycles {α : Type} (k : Nat) (op : Op α) : Prop :=
  ∀ s a t, op s = .ok a t → ∃ n, k ≤ n ∧ t.clk = s.clk + 4 * n

theorem Op.Takes.wholeCycles {α : Type} {k : Nat} {op : Op α} (h : Op.Takes (4 * k) op) : Op.WholeCycles k op :=
  fun s a t e => ⟨k, Nat.le_refl k, h s a t e⟩

namespace Op.WholeCycles

theorem bind {α β : Type} {k l : Nat} {x : Op α} {f : α → Op β} (hx : Op.WholeCycles k x)
    (hf : ∀ a, Op.WholeCycles l (f a)) : Op.WholeCycles (k + l) (x >>= f) := by
  intro s b u h
  obtain ⟨a, t, ex, ef⟩ := bind_ok_iff.mp h
  obtain ⟨n, hn, ht⟩ := hx s a t ex
  obtain ⟨m, hm, hu⟩ := hf a t b u ef
  exact ⟨n + m, Nat.add_le_add hn hm, by rw [hu, ht, Nat.mul_add, Nat.add_assoc]⟩

theorem mono {α : Type} {k l : Nat} {op : Op α} (h : Op.WholeCycles k op) (hl : l ≤ k) : Op.WholeCycles l op :=
  fun s a t e => (h s a t e).imp fun _ ⟨hn, ht⟩ => ⟨hl.trans hn, ht⟩

theorem pure {α : Type} (a : α) : Op.WholeCycles 0 (Pure.pure a : Op α) := (Op.Takes.pure a).wholeCycles
theorem updateCpu (f : Cpu → Cpu) : Op.WholeCycles 0 (updateCpu f) := (Op.Takes.updateCpu f).wholeCycles

/-- Wrapping the value of an operation takes no time. -/
theorem map {α β : Type} {k : Nat} {op : Op α} (h : Op.WholeCycles k op) (g : α → β) : Op.WholeCycles k (g <$> op) :=
  h.bind (f := fun a => Pure.pure (g a)) fun _ => pure _

theorem dispatchCheck : Op.WholeCycles 0 dispatchCheck := by
  intro s a t e
  unfold Machine.dispatchCheck at e
  split at e
  · exact ⟨5, Nat.zero_le 5, Op.Takes.dispatch s a t e⟩
  · cases e; exact ⟨0, Nat.le_refl 0, rfl⟩

theorem fetchOpcode : Op.WholeCycles 1 fetchOpcode :=
  (updateCpu _).bind (k := 0) (l := 1) fun _ => Op.Takes.fetch8.wholeCycles

theorem fetchImmediates (e : Entry) : Op.WholeCycles 0 (fetchImmediates e) := by
  cases e with
  | op i => exact pure i
  | skip1 i => exact pure i
  | imm8 f => exact (map (k := 1) Op.Takes.fetch8.wholeCycles f).mono (Nat.zero_le 1)
  | imm16 f => exact (map (k := 2) Op.Takes.fetch16.wholeCycles f).mono (Nat.zero_le 2)

/-- The phases before an instruction take at least the cycle of an opcode fetch, or that of the idle halted step. -/
theorem cpuStepPhases : Op.WholeCycles 1 cpuStepPhases := by
  have prefixed : Op.WholeCycles 1 prefixedPhase :=
    (updateCpu _).bind (k := 0) (l := 1) fun _ => fetchOpcode.map _
  have running : Op.WholeCycles 1 runningPhase :=
    (updateCpu _).bind (k := 0) (l := 1) fun _ => dispatchCheck.bind (l := 1) fun _ =>
      (updateCpu _).bind (k := 0) (l := 1) fun _ => fetchOpcode.bind fun _ => fetchImmediates _
  intro s
  unfold Machine.cpuStepPhases
  split
  · exact prefixed.map _ s
  · split
    · exact ((Op.Takes.charge 1).wholeCycles.map _) s
    · exact running.map _ s

end Op.WholeCycles

@[simp] theorem hostTurn_clk (s : State) : s.hostTurn.clk = s.clk := by
  unfold State.hostTurn
  split <;> rfl

/-- A step that goes on takes whole machine cycles, and at least one. -/
theorem step_clk {s t : State} (e : step s = .next t) : ∃ n, 1 ≤ n ∧ t.clk = s.clk + 4 * n := by
  unfold step beginStep at e
  cases hb : cpuStepPhases s.hostTurn with
  | error r u => rw [hb] at e; cases e
  | ok x u =>
    rw [hb] at e
    obtain ⟨n, hn, hu⟩ := Op.WholeCycles.cpuStepPhases _ _ _ hb
    rw [hostTurn_clk] at hu
    cases x with
    | none => cases e; exact ⟨n, hn, hu⟩
    | some i => exact ⟨n + _, Nat.le_add_right_of_le hn, by rw [exec_clk e, hu, Nat.mul_add, Nat.add_assoc]⟩

end Sys2Proof.Machine
end

section
/-! What no step changes: the image, the variant and sizes of the cartridge, the parameters, and the pixels already
emitted (R33, R36, R480). -/

namespace Sys2Proof.Machine

/-- Two cartridges alike in what is fixed when an image is loaded (R480, R483). -/
structure Cart.SameBoard (c d : Cart) : Prop where
  rom : d.rom = c.rom
  mapper : d.mapper = c.mapper
  nbanks : d.nbanks = c.nbanks
  ramSize : d.ramSize = c.ramSize

theorem Cart.SameBoard.refl (c : Cart) : c.SameBoard c := ⟨rfl, rfl, rfl, rfl⟩

theorem Cart.SameBoard.trans {c d e : Cart} (h : c.SameBoard d) (h' : d.SameBoard e) : c.SameBoard e :=
  ⟨h'.rom.trans h.rom, h'.mapper.trans h.mapper, h'.nbanks.trans h.nbanks, h'.ramSize.trans h.ramSize⟩

/-- A write below 0x8000 reaches the banking registers only. -/
theorem Cart.writeRom_sameBoard (c : Cart) (a : Addr) (v : Byte) : c.SameBoard (c.writeRom a v) := by
  unfold Cart.writeRom
  repeat' split
  all_goals exact ⟨rfl, rfl, rfl, rfl⟩

/-- A write to the RAM window reaches the RAM's bytes only. -/
theorem Cart.writeRam_sameBoard (c : Cart) (a : Addr) (v : Byte) : c.SameBoard (c.writeRam a v) := by
  unfold Cart.writeRam
  split <;> exact ⟨rfl, rfl, rfl, rfl⟩

/-- `t` is a later state of the same run of the same machine: the same cartridge and parameters, and nothing emitted has
been taken back. -/
structure State.SameConfiguration (s t : State) : Prop where
  board : s.cart.SameBoard t.cart
  params : t.params = s.params
  emits : s.emits <:+ t.emits

/-- The configuration lies in three fields of the state. -/
theorem State.SameConfiguration.of_eq {s t : State} (hc : t.cart = s.cart) (hp : t.params = s.params)
    (he : t.emits = s.emits) : s.SameConfiguration t :=
  ⟨hc ▸ .refl _, hp, he ▸ List.suffix_refl _⟩

theorem State.SameConfiguration.refl (s : State) : s.SameConfiguration s := .of_eq rfl rfl rfl

theorem State.SameConfiguration.trans {s t u : State} (h : s.SameConfiguration t) (h' : t.SameConfiguration u) :
    s.SameConfiguration u :=
  ⟨h.board.trans h'.board, h'.params.trans h.params, h.emits.trans h'.emits⟩

theorem Ticked.sameConfiguration {n : Nat} {s t : State} (h : Ticked n s t) : s.SameConfiguration t :=
  ⟨h.cart ▸ .refl _, h.params, h.emits⟩

theorem stored_sameConfiguration (s : State) (a : Addr) (v : Byte) : s.SameConfiguration (s.stored a v) := by
  refine ⟨?_, stored_params s a v, (stored_emits s a v).symm ▸ List.suffix_refl _⟩
  rcases (stored_dma_cart s a v).2 with hc | ⟨-, hc⟩ | hc
  · rw [hc]; exact .refl _
  · rw [hc]; exact Cart.writeRom_sameBoard _ a v
  · rw [hc]; exact Cart.writeRam_sameBoard _ a v

/-- Every primitive of the machine keeps the configuration. -/
theorem sameConfiguration_primitive : Primitive State.SameConfiguration fun _ _ => True :=
  have trans : ∀ s t u : State, s.SameConfiguration t → t.SameConfiguration u → s.SameConfiguration u :=
    fun _ _ _ => .trans
  have read : ∀ a, Op.Sat State.SameConfiguration (fun _ _ => True) (busRead a) := fun a =>
    busRead_sat .refl a (fun s => (loaded_ticked s a).sameConfiguration) fun _ _ => trivial
  have write : ∀ a v, Op.Sat State.SameConfiguration (fun _ _ => True) (busWrite a v) := fun a v =>
    busWrite_sat .refl a v (stored_sameConfiguration · a v) fun _ _ => trivial
  { refl := .refl
    trans := trans
    cpu := fun _ _ => .of_eq rfl rfl rfl
    tick := tick_sat trans (fun s => (timerTick_ticked s).sameConfiguration)
      (dmaTick_sat .refl trans (fun _ _ => .of_eq rfl rfl rfl) read write) fun s =>
        (displayTick_ticked s).sameConfiguration
    read := read
    write := write
    stop := fun _ _ => trivial
    illegal := fun _ _ _ _ => trivial }

theorem takeVector_sameConfiguration (s : State) (ieSnap : BitVec 5) : s.SameConfiguration (s.takeVector ieSnap) := by
  unfold State.takeVector
  split <;> exact .of_eq rfl rfl rfl

theorem hostTurn_sameConfiguration (s : State) : s.SameConfiguration s.hostTurn := by
  unfold State.hostTurn
  split <;> exact .of_eq rfl rfl rfl

theorem step_sameConfiguration {s t : State} (e : step s = .next t) : s.SameConfiguration t :=
  sameConfiguration_primitive.step takeVector_sameConfiguration hostTurn_sameConfiguration e

end Sys2Proof.Machine

open Sys2Proof.Machine in
/-- Settles O16: the configuration is kept because every primitive of the machine keeps it, and every phase of
a step, like every instruction, charges whole machine cycles. -/
theorem stepKeepsConfiguration : Obligations.StepKeepsConfiguration := by
  unfold Obligations.StepKeepsConfiguration
  intro s t e
  obtain ⟨⟨hrom, hmapper, hnbanks, hramSize⟩, hparams, hemits⟩ := step_sameConfiguration e
  exact ⟨hrom, hmapper, hnbanks, hramSize, hparams, hemits, step_clk e⟩

end

section

open Sys2Proof.Machine in
/-- Settles O31: the bits of F are the flags it decodes to, and decoding takes back what was encoded. -/
theorem flagByte : Obligations.FlagByte := by
  unfold Obligations.FlagByte
  intro c x
  have h : Flags.ofByte x.toByte = x := Flags.ofByte_toByte x
  exact ⟨congrArg Flags.z h, congrArg Flags.n h, congrArg Flags.h h, congrArg Flags.c h, Flags.toByte_low x, rfl, rfl⟩

end

section

open Sys2Proof.Machine in
/-- Settles O19: by induction on the ticks, of which each completes and leaves the next one as safe (`ticks_ok`). -/
theorem ticksFrame : Obligations.TicksFrame := by
  unfold Obligations.TicksFrame
  exact fun n s h => ⟨s.after (ticks n), ticks_ok n s h⟩

end

section
/-! Storing and reading back a byte of the storage arrays, and the address map region by region (R35, R80 to R83,
R95). -/

namespace Sys2Proof.Machine

/-! ### The regions as ranges of addresses (R80) -/

theorem isStorage_iff_range {a : Addr} : isStorage a = true ↔
    (0x8000 ≤ a.toNat ∧ a.toNat < 0xA000) ∨ (0xC000 ≤ a.toNat ∧ a.toNat < 0xE000) ∨
      (0xFE00 ≤ a.toNat ∧ a.toNat < 0xFEA0) ∨ (0xFF80 ≤ a.toNat ∧ a.toNat < 0xFFFF) := by
  rw [isStorage_iff]
  unfold region
  simp only []
  repeat' split
  all_goals simp only [reduceCtorEq, true_iff, false_iff, or_false, or_true]; omega

theorem region_prohibited {a : Addr} : region a = .prohibited ↔
    (0xE000 ≤ a.toNat ∧ a.toNat < 0xFE00) ∨ (0xFEA0 ≤ a.toNat ∧ a.toNat < 0xFF00) := by
  unfold region
  simp only []
  repeat' split
  all_goals simp only [reduceCtorEq, true_iff, false_iff]; omega

theorem region_ne_extRam_of_storage {a : Addr} (h : isStorage a = true) : region a ≠ .extRam := by
  rcases isStorage_iff.mp h with h | h | h | h <;> rw [h] <;> nofun

theorem region_ne_io_of_storage {a : Addr} (h : isStorage a = true) : region a ≠ .io := by
  rcases isStorage_iff.mp h with h | h | h | h <;> rw [h] <;> nofun

/-! ### Uncharged accesses to the storage arrays -/

theorem busRead_storage {s : State} {a : Addr} (h : isStorage a = true) :
    busRead a s = .ok (s.mem.read a.toNat) s := by
  rw [busRead_ok s a fun _ => region_ne_extRam_of_storage h, peek_storage h,
    loaded_of_not_io (region_ne_io_of_storage h)]

theorem busWrite_storage {s : State} {a : Addr} (v : Byte) (h : isStorage a = true) :
    busWrite a v s = .ok () { s with mem := s.mem.write a.toNat v } := by
  rw [busWrite_ok s a v fun _ => region_ne_extRam_of_storage h, stored_storage v h]

/-- A write to an address of the arrays keeps the canonical form and lists no address outside them (R35). -/
theorem Memory.Inv.write {m : Memory} {a : Addr} (h : Memory.Inv m) (v : Byte) (ha : isStorage a = true) :
    Memory.Inv (m.write a.toNat v) where
  wf := Memory.wf_write _ _ h.wf
  storage x hx := by
    rcases Memory.mem_write hx with rfl | hx
    · exact ⟨a.isLt, by rwa [BitVec.ofNat_toNat, BitVec.setWidth_eq]⟩
    · exact h.storage x hx

end Sys2Proof.Machine

open Sys2Proof.Machine in
/-- Settles O20: a write to the arrays is one write to memory, to which the laws of a memory's bytes apply. -/
theorem storageReadsBack : Obligations.StorageReadsBack := by
  unfold Obligations.StorageReadsBack
  intro s a v ha
  refine ⟨busWrite_ok s a v fun _ => region_ne_extRam_of_storage ha, ?_⟩
  rw [stored_storage v ha]
  refine ⟨?_, fun b hb hstorage => ?_, rfl, fun h => h.write v ha⟩
  · rw [peek_storage ha]
    exact Memory.read_write_same _ _ _
  · rw [peek_storage hstorage, peek_storage hstorage]
    exact Memory.read_write_other _ _ fun h => hb (BitVec.eq_of_toNat_eq h)

open Sys2Proof.Machine in
/-- Settles O21: each range of addresses is one region of the decoder, which answers for the whole region alike. -/
theorem addressMap : Obligations.AddressMap := by
  unfold Obligations.AddressMap
  intro s a v
  refine ⟨fun h => ?romWindow, fun h => ?storage, fun h hm => ?extRam, fun h => ?prohibited, fun h => ?ieRegister⟩
  case romWindow =>
    have hr := region_romWindow.mpr h
    simp only [busRead, busWrite, hr, and_self]
  case storage =>
    have ha := isStorage_iff_range.mpr h
    exact ⟨busRead_storage ha, busWrite_storage v ha⟩
  case extRam =>
    have hr := region_extRam.mpr h
    simp [busRead, busWrite, hr, hm]
  case prohibited =>
    have hr := region_prohibited.mpr h
    simp only [busRead, busWrite, hr, and_self]
  case ieRegister =>
    have hr := region_ie.mpr h
    have unstoredBits : ∀ x : BitVec 5, 0b111#3 ++ x = 0xE0#8 ||| x.setWidth 8 := by decide
    have storedBits : v.extractLsb' 0 5 = v.setWidth 5 := (BitVec.setWidth_eq_extractLsb' (by decide)).symm
    simp only [busRead, busWrite, hr, unstoredBits, storedBits, and_self]

end

section
/-! What an instruction is made of: updates of the CPU, time passing (with the reads between the ticks), and stores to
the addresses its form stores to. Everything no such move changes, no instruction changes (R70, R82, R89, R95). -/

namespace Sys2Proof.Machine

/-! ### A tick that completes -/

/-- The DMA machine's registers change as ticks may change them, where a transfer runs. -/
theorem Ticked.of_runningDma {s : State} {d : Dma} (ha : s.dma.active = true) (hr : d.reg = s.dma.reg) :
    Ticked 0 s { s with dma := d } := by
  constructor <;> first | rfl | (intros; rfl) | simp
  · simp [ha]
  · exact hr

/-- The DMA machine's part of a tick that completes; a transfer about to read RAM that is not there completes only while
it does not read yet. -/
theorem dmaTick_ticked {s t : State} {x : Unit} (hok : s.dma.ok = true) (e : dmaTick s = .ok x t) :
    Ticked 0 s t ∧ t.dma.ok = true := by
  by_cases hs : s.chargeSafe
  · obtain ⟨u, hu, ht, hsafe⟩ := dmaTick_ok s hs
    rw [hu] at e
    cases e
    exact ⟨ht, hsafe.1⟩
  · obtain ⟨hm, ha, hsrc⟩ : s.cart.ramMissing = true ∧ s.dma.active = true ∧ region s.dma.src = .extRam := by
      simpa [State.chargeSafe, hok] using hs
    by_cases hwait : 0 < s.dma.wait
    · simp only [dmaTick, ha, hwait, if_true, if_false, Bool.true_eq_false] at e
      cases e
      exact ⟨.of_runningDma ha rfl, by simpa [Dma.ok, ha] using hok⟩
    · by_cases hdone : 0xFE9F < s.dma.dst.toNat
      · simp only [dmaTick, ha, hwait, hdone, if_true, if_false, Bool.true_eq_false] at e
        cases e
        exact ⟨.of_runningDma ha rfl, rfl⟩
      · simp only [dmaTick, ha, hwait, hdone, if_false, Bool.true_eq_false, dmaCopy, look_bind,
          bind_of_error (busRead_error s s.dma.src hm hsrc)] at e
        cases e

/-- A tick that completes. -/
theorem tick_ticked {s t : State} {x : Unit} (hok : s.dma.ok = true) (e : tick s = .ok x t) :
    Ticked 1 s t ∧ t.dma.ok = true := by
  have e' : (dmaTick >>= fun _ => update State.displayTick) s.timerTick = .ok x t := e
  obtain ⟨y, u, hu, hdisplay⟩ := bind_ok_iff.mp e'
  cases hdisplay
  obtain ⟨ht, hok'⟩ := dmaTick_ticked (s := s.timerTick) hok hu
  exact ⟨((timerTick_ticked s).trans ht).trans (displayTick_ticked u), hok'⟩

/-- Ticks neither read nor change the CPU. -/
theorem Ticked.withCpu {n : Nat} {s t : State} (h : Ticked n s t) (c : Cpu) : Ticked n (s.withCpu c) (t.withCpu c) :=
  { h with cpu := rfl }

/-! ### Moves -/

/-- One thing an instruction can do: change the CPU, let time pass or read, or store at an address of `w`. -/
inductive Move (w : List Addr) : State → State → Prop where
  | cpu (s : State) (c : Cpu) : Move w s (s.withCpu c)
  | ticked {n : Nat} {s t : State} (h : Ticked n s t) : Move w s t
  | store (s : State) {a : Addr} (v : Byte) (h : a ∈ w) : Move w s (s.stored a v)

/-- `t` is `s` after any number of moves. -/
abbrev Moves (w : List Addr) : State → State → Prop := Relation.ReflTransGen (Move w)

/-- What no single move changes, no number of moves changes. -/
theorem Moves.kept {α : Type} {w : List Addr} {s t : State} (h : Moves w s t) (f : State → α)
    (cpu : ∀ s c, f (s.withCpu c) = f s) (ticked : ∀ {n s t}, Ticked n s t → f t = f s)
    (store : ∀ s a v, a ∈ w → f (s.stored a v) = f s) : f t = f s := by
  induction h with
  | refl => rfl
  | tail _ move ih =>
    rw [← ih]
    cases move with
    | cpu => exact cpu _ _
    | ticked h => exact ticked h
    | store _ v ha => exact store _ _ v ha

/-- Moves that store nothing leave, but for the CPU, the state some ticks later. -/
theorem Moves.ticked {s t : State} (h : Moves [] s t) : ∃ n, Ticked n s (t.withCpu s.cpu) := by
  induction h with
  | refl => exact ⟨0, .refl s⟩
  | tail _ move ih =>
    obtain ⟨n, hn⟩ := ih
    cases move with
    | cpu => exact ⟨n, hn⟩
    | ticked h => exact ⟨_, hn.trans (h.withCpu s.cpu)⟩
    | store _ _ ha => cases ha

/-! ### Operations made of moves -/

/-- Where a transfer's cursors are in step, `t` is reached by moves, and they stay in step. -/
def State.Within (w : List Addr) (s t : State) : Prop := s.dma.ok = true → Moves w s t ∧ t.dma.ok = true

namespace State.Within

variable {w : List Addr} {s t u : State}

theorem refl (s : State) : s.Within w s := fun hok => ⟨.refl, hok⟩

theorem trans (h : s.Within w t) (h' : t.Within w u) : s.Within w u := fun hok =>
  have ⟨hst, hok'⟩ := h hok
  have ⟨htu, hok''⟩ := h' hok'
  ⟨.trans hst htu, hok''⟩

theorem withCpu (s : State) (c : Cpu) : s.Within w (s.withCpu c) := fun hok => ⟨.single (.cpu s c), hok⟩

theorem loaded (s : State) (a : Addr) : s.Within w (s.loaded a) := fun hok =>
  ⟨.single (.ticked (loaded_ticked s a)), by rwa [loaded_dma]⟩

theorem stored (s : State) {a : Addr} (v : Byte) (h : a ∈ w) : s.Within w (s.stored a v) := by
  intro hok
  refine ⟨.single (.store s v h), ?_⟩
  rcases (stored_dma_cart s a v).1 with hd | ⟨-, hd⟩ <;> rw [hd]
  · exact hok
  · exact dma_trigger_ok v

end State.Within

/-- An operation that, where it completes, is made of moves that store at addresses of `w` only. -/
def Op.Confined {α : Type} (w : List Addr) (op : Op α) : Prop := ∀ s a t, op s = .ok a t → s.Within w t

namespace Op.Confined

variable {w : List Addr}

theorem bind {α β : Type} {x : Op α} {f : α → Op β} (hx : Op.Confined w x) (hf : ∀ a, Op.Confined w (f a)) :
    Op.Confined w (x >>= f) := by
  intro s b u e
  obtain ⟨a, t, ex, ef⟩ := bind_ok_iff.mp e
  exact (hx s a t ex).trans (hf a t b u ef)

theorem look_bind {α β : Type} {f : State → α} {g : α → Op β} (h : ∀ a, Op.Confined w (g a)) :
    Op.Confined w (Machine.look f >>= g) := fun s => h (f s) s

theorem pure {α : Type} (a : α) : Op.Confined w (Pure.pure a : Op α) := fun s _ _ e => by cases e; exact .refl s

theorem updateCpu (f : Cpu → Cpu) : Op.Confined w (updateCpu f) := fun s _ _ e => by cases e; exact .withCpu s _

theorem bind_updateCpu {α : Type} {x : Op α} {f : α → Cpu → Cpu} (h : Op.Confined w x) :
    Op.Confined w (x >>= fun a => Machine.updateCpu (f a)) := h.bind fun _ => updateCpu _

theorem ticks (n : Nat) : Op.Confined w (ticks n) := by
  induction n with
  | zero => exact pure ()
  | succ n ih =>
    refine bind (x := tick) (fun s x t e hok => ?_) fun _ => ih
    obtain ⟨ht, hok'⟩ := tick_ticked hok e
    exact ⟨.single (.ticked ht), hok'⟩

theorem internal : Op.Confined w internal := ticks _

theorem busRead (a : Addr) : Op.Confined w (busRead a) := by
  intro s v t e
  rw [← after_of_ok e]
  exact .loaded s a

theorem busWrite {a : Addr} (v : Byte) (h : a ∈ w) : Op.Confined w (busWrite a v) := by
  intro s x t e
  rw [← after_of_ok e]
  exact .stored s v h

theorem memRead (a : Addr) : Op.Confined w (memRead a) := (ticks _).bind fun _ => busRead a
theorem memWrite {a : Addr} (v : Byte) (h : a ∈ w) : Op.Confined w (memWrite a v) :=
  (ticks _).bind fun _ => busWrite v h

theorem loadA (a : Addr) : Op.Confined w (loadA a) := (memRead a).bind_updateCpu
theorem storeA {a : Addr} (h : a ∈ w) : Op.Confined w (storeA a) := look_bind fun _ => memWrite _ h

/-- Memory at HL read, and the CPU changed by it. -/
theorem readHl (f : Byte → Cpu → Cpu) :
    Op.Confined w (Machine.look (fun s => s.cpu.hl) >>= fun hl => Machine.memRead hl >>= fun v =>
      Machine.updateCpu (f v)) :=
  look_bind fun _ => (memRead _).bind_updateCpu

/-- Memory at an address read, changed and written back, with the flags of the change. -/
theorem rmw {a : Addr} (h : a ∈ w) (f : Byte → Flags → Byte) (g : Byte → Flags → Cpu → Cpu) :
    Op.Confined w (Machine.memRead a >>= fun v => Machine.look (fun s => s.cpu.flags) >>= fun x =>
      Machine.memWrite a (f v x) >>= fun _ => Machine.updateCpu (g v x)) :=
  (memRead a).bind fun _ => look_bind fun _ => (memWrite _ h).bind_updateCpu

/-- Memory at an address read, changed and written back, no flag changed. -/
theorem bitRmw {a : Addr} (h : a ∈ w) (f : Byte → Byte) :
    Op.Confined w (Machine.memRead a >>= fun v => Machine.memWrite a (f v)) :=
  (memRead a).bind fun _ => memWrite _ h

theorem pop8 : Op.Confined w pop8 := look_bind fun _ => (memRead _).bind fun _ => (updateCpu _).bind fun _ => pure _
theorem pop16 : Op.Confined w pop16 := pop8.bind fun _ => pop8.bind fun _ => pure _
theorem returnOp : Op.Confined w returnOp := pop16.bind fun _ => internal.bind_updateCpu
theorem jpOp (nn : BitVec 16) : Op.Confined w (jpOp nn) := internal.bind_updateCpu
theorem jrOp (e : Byte) : Op.Confined w (jrOp e) := internal.bind_updateCpu

theorem whenCond (cc : Cond) {op : Op Unit} (h : Op.Confined w op) : Op.Confined w (whenCond cc op) :=
  look_bind fun taken => by
    cases taken with
    | true => exact h
    | false => exact pure ()

theorem stopOp : Op.Confined w stopOp :=
  (updateCpu _).bind fun _ => look_bind fun u => by
    cases u.params.stopOutcome with
    | terminal => exact fun _ _ _ e => by cases e
    | noOp => exact pure ()

theorem illegalOp (op : Byte) : Op.Confined w (illegalOp op) :=
  look_bind fun u => by
    cases u.params.illegalOutcome with
    | fault => exact fun _ _ _ e => by cases e
    | noOp => exact pure ()

end Op.Confined

/-! ### Pushes: where they store depends on the stack pointer they start from -/

theorem blind_memWrite (a : Addr) (v : Byte) : Op.CpuBlind (memWrite a v) :=
  .bind (blind_ticks _) fun _ => blind_busWrite a v

/-- A byte pushed is stored below the stack pointer, which then points to it. -/
theorem push8_within {w : List Addr} {s t : State} {v : Byte} {x : Unit} (h : s.cpu.sp - 1 ∈ w)
    (e : push8 v s = .ok x t) : s.Within w t ∧ t.cpu.sp = s.cpu.sp - 1 := by
  have e' : memWrite (s.cpu.sp - 1) v (s.withCpu { s.cpu with sp := s.cpu.sp - 1 }) = .ok x t := e
  refine ⟨(State.Within.withCpu s _).trans (Op.Confined.memWrite v h _ x t e'), ?_⟩
  rw [(blind_memWrite _ v).cpu_eq e']
  rfl

theorem push16_within {w : List Addr} {s t : State} {v : BitVec 16} {x : Unit} (h : s.cpu.pushAddrs ⊆ w)
    (e : push16 v s = .ok x t) : s.Within w t := by
  obtain ⟨y, u, ehi, elo⟩ := bind_ok_iff.mp e
  obtain ⟨hu, hsp⟩ := push8_within (h (by simp [Cpu.pushAddrs])) ehi
  refine hu.trans (push8_within ?_ elo).1
  rw [hsp, BitVec.sub_sub]
  exact h (by simp [Cpu.pushAddrs])

/-- One internal cycle and then a push, of whatever the CPU then says. -/
theorem internal_push16_within {w : List Addr} {s t : State} {f : State → BitVec 16} {x : Unit}
    (h : s.cpu.pushAddrs ⊆ w) (e : (internal >>= fun _ => look f >>= push16) s = .ok x t) : s.Within w t := by
  obtain ⟨y, u, ei, ep⟩ := bind_ok_iff.mp e
  refine (Op.Confined.internal s y u ei).trans (push16_within ?_ ep)
  rwa [(blind_ticks _).cpu_eq ei]

theorem callOp_within {w : List Addr} {s t : State} {target : Addr} {x : Unit} (h : s.cpu.pushAddrs ⊆ w)
    (e : callOp target s = .ok x t) : s.Within w t := by
  have e' : ((internal >>= fun _ => look (·.cpu.pc) >>= push16) >>= fun _ => jumpTo target) s = .ok x t := by
    simp only [bind_assoc]
    exact e
  obtain ⟨y, u, ep, ej⟩ := bind_ok_iff.mp e'
  exact (internal_push16_within h ep).trans (Op.Confined.updateCpu _ u x t ej)

/-! ### Every instruction -/

/-- The meaning of a form is made of moves that store where the form stores. -/
theorem formOp_within (f : Form) (s : State) (x : Unit) (t : State) (e : formOp f s = .ok x t) :
    s.Within (f.stores s.cpu) t := by
  have only {a : Addr} : a ∈ [a] := List.mem_singleton_self a
  cases f with
  | nop => exact Op.Confined.pure () s x t e
  | stop => exact Op.Confined.stopOp s x t e
  | illegal op => exact Op.Confined.illegalOp op s x t e
  | halt | di | ei | prefixCb | ldRegReg | ldRegImm | ldPairImm | daa | cpl | scf | ccf | accRot | jpHl =>
    cases e; exact .withCpu s _
  | ldRegMem => exact Op.Confined.readHl _ s x t e
  | ldMemReg | ldMemImm => exact Op.Confined.memWrite _ only s x t e
  | loadA p =>
    cases p with
    | pair | highC => exact Op.Confined.look_bind (fun _ => .loadA _) s x t e
    | abs | high => exact Op.Confined.loadA _ s x t e
  | storeA p => cases p <;> exact Op.Confined.storeA only s x t e
  | loadAStep => exact Op.Confined.look_bind (fun _ => (Op.Confined.loadA _).bind_updateCpu) s x t e
  | storeAStep => exact (Op.Confined.storeA only).bind_updateCpu s x t e
  | ldMemSp nn =>
    exact (Op.Confined.memWrite _ (by simp [Form.stores])).bind
      (fun _ => .memWrite _ (by simp [Form.stores])) s x t e
  | ldSpHl | ldHlSp | addHl | incPair | decPair => exact Op.Confined.internal.bind_updateCpu s x t e
  | addSp => exact Op.Confined.internal.bind (fun _ => Op.Confined.internal.bind_updateCpu) s x t e
  | push => exact internal_push16_within (List.Subset.refl _) e
  | pop => exact Op.Confined.pop16.bind_updateCpu s x t e
  | alu _ y =>
    cases y with
    | reg | imm => cases e; exact .withCpu s _
    | memHl => exact Op.Confined.readHl _ s x t e
  | inc8 y =>
    cases y with
    | reg => cases e; exact .withCpu s _
    | memHl => exact Op.Confined.rmw only (fun v y => (inc8 v y).1) _ s x t e
  | dec8 y =>
    cases y with
    | reg => cases e; exact .withCpu s _
    | memHl => exact Op.Confined.rmw only (fun v y => (dec8 v y).1) _ s x t e
  | rot op y =>
    cases y with
    | reg => cases e; exact .withCpu s _
    | memHl => exact Op.Confined.rmw only (fun v y => (rotFlags8 op v y).1) _ s x t e
  | bit _ y =>
    cases y with
    | reg => cases e; exact .withCpu s _
    | memHl => exact Op.Confined.readHl _ s x t e
  | res _ y | set _ y =>
    cases y with
    | reg => cases e; exact .withCpu s _
    | memHl => exact Op.Confined.bitRmw only _ s x t e
  | jp nn => exact Op.Confined.jpOp nn s x t e
  | jr d => exact Op.Confined.jrOp d s x t e
  | jpCond cc nn => exact Op.Confined.whenCond cc (.jpOp nn) s x t e
  | jrCond cc d => exact Op.Confined.whenCond cc (.jrOp d) s x t e
  | call | rst => exact callOp_within (List.Subset.refl _) e
  | callCond cc nn =>
    cases hc : s.cpu.cond cc with
    | true => exact callOp_within (by simp [Form.stores, hc]) ((whenCond_true _ hc).symm.trans e)
    | false =>
      cases (whenCond_false _ hc).symm.trans e
      exact .refl s
  | ret => exact Op.Confined.returnOp s x t e
  | retCond cc => exact Op.Confined.internal.bind (fun _ => .whenCond cc .returnOp) s x t e
  | reti => exact Op.Confined.returnOp.bind_updateCpu s x t e

/-- An instruction that completes is made of moves that store where its form stores. -/
theorem exec_moves {i : Instr} {s t : State} (hok : s.dma.ok = true) (e : exec i s = .next t) :
    Moves (i.form.stores s.cpu) s t := by
  rw [exec_form, answer_next_iff] at e
  exact (formOp_within i.form s () t e hok).1

end Sys2Proof.Machine

open Sys2Proof.Machine in
/-- Settles O45: an instruction that stores nothing is made of CPU updates and ticks, and the ticks add up. -/
theorem frameWithoutStores : Obligations.FrameWithoutStores := by
  unfold Obligations.FrameWithoutStores
  intro i s t hstores hok e
  have h := exec_moves hok e
  rw [hstores] at h
  exact h.ticked

end

section
/-! What a store leaves alone outside the region it falls in, and what an instruction therefore leaves alone (R82, R95,
R480). -/

namespace Sys2Proof.Machine

/-! ### What a store changes, by region -/

/-- All a store can do: nothing, or an update of what lies behind the region of its address (R82). -/
theorem stored_cases (s : State) (a : Addr) (v : Byte) :
    s.stored a v = s ∨
    (region a = .romWindow ∧ s.stored a v = { s with cart := s.cart.writeRom a v }) ∨
    (region a = .extRam ∧ s.stored a v = { s with cart := s.cart.writeRam a v }) ∨
    (isStorage a = true ∧ s.stored a v = { s with mem := s.mem.write a.toNat v }) ∨
    (region a = .ieRegister ∧ s.stored a v = { s with ie := v.extractLsb' 0 5 }) ∨
    (region a = .io ∧ ∃ r, ioReg s.params a = some r ∧ s.stored a v = s.ioWrite r v) := by
  by_cases ha : isStorage a = true
  · exact .inr (.inr (.inr (.inl ⟨ha, stored_storage v ha⟩)))
  unfold State.stored State.after
  cases hr : region a <;> simp only [busWrite, hr, true_or, or_true, true_and]
  case extRam => cases s.cart.ramMissing <;> simp
  case io => cases ioReg s.params a <;> simp
  all_goals exact absurd (by simp only [isStorage, hr]) ha

@[simp] theorem State.ioWrite_mem (s : State) (r : IoReg) (v : Byte) : (s.ioWrite r v).mem = s.mem := by
  cases r <;> rfl
@[simp] theorem State.ioWrite_cart (s : State) (r : IoReg) (v : Byte) : (s.ioWrite r v).cart = s.cart := by
  cases r <;> rfl
@[simp] theorem State.ioWrite_ie (s : State) (r : IoReg) (v : Byte) : (s.ioWrite r v).ie = s.ie := by
  cases r <;> rfl
@[simp] theorem State.ioWrite_buttons (s : State) (r : IoReg) (v : Byte) :
    (s.ioWrite r v).joypad.buttons = s.joypad.buttons := by cases r <;> rfl

theorem stored_read_other (s : State) {a b : Addr} (v : Byte) (h : b ≠ a) :
    (s.stored a v).mem.read b.toNat = s.mem.read b.toNat := by
  rcases stored_cases s a v with e | ⟨-, e⟩ | ⟨-, e⟩ | ⟨-, e⟩ | ⟨-, e⟩ | ⟨-, r, -, e⟩ <;> rw [e]
  · exact Memory.read_write_other _ _ fun hab => h (BitVec.eq_of_toNat_eq hab)
  · rw [s.ioWrite_mem]

theorem stored_ram (s : State) {a : Addr} (v : Byte) (h : region a ≠ .extRam) :
    (s.stored a v).cart.ram = s.cart.ram := by
  rcases stored_cases s a v with e | ⟨-, e⟩ | ⟨hr, -⟩ | ⟨-, e⟩ | ⟨-, e⟩ | ⟨-, r, -, e⟩
  case inr.inr.inl => exact absurd hr h
  all_goals rw [e]
  · unfold Cart.writeRom
    repeat' split
    all_goals rfl
  · rw [s.ioWrite_cart]

/-- The banking registers of the cartridge (R483). -/
def Cart.banking (c : Cart) : BitVec 5 × BitVec 2 × Bool × Bool := (c.bank1, c.bank2, c.ramEn, c.bmode)

theorem stored_banking (s : State) {a : Addr} (v : Byte) (h : region a ≠ .romWindow) :
    (s.stored a v).cart.banking = s.cart.banking := by
  rcases stored_cases s a v with e | ⟨hr, -⟩ | ⟨-, e⟩ | ⟨-, e⟩ | ⟨-, e⟩ | ⟨-, r, -, e⟩
  case inr.inl => exact absurd hr h
  all_goals rw [e]
  · unfold Cart.writeRam
    split <;> rfl
  · rw [s.ioWrite_cart]

theorem stored_ie (s : State) {a : Addr} (v : Byte) (h : region a ≠ .ieRegister) : (s.stored a v).ie = s.ie := by
  rcases stored_cases s a v with e | ⟨-, e⟩ | ⟨-, e⟩ | ⟨-, e⟩ | ⟨hr, -⟩ | ⟨-, r, -, e⟩
  case inr.inr.inr.inr.inl => exact absurd hr h
  all_goals rw [e]
  · exact s.ioWrite_ie r v

theorem stored_buttons (s : State) (a : Addr) (v : Byte) : (s.stored a v).joypad.buttons = s.joypad.buttons := by
  rcases stored_cases s a v with e | ⟨-, e⟩ | ⟨-, e⟩ | ⟨-, e⟩ | ⟨-, e⟩ | ⟨-, r, -, e⟩ <;> rw [e]
  exact s.ioWrite_buttons r v

/-- A transfer is started at its trigger register only (R461). -/
theorem stored_dma (s : State) {a : Addr} (v : Byte) (h : a ≠ 0xFF46) : (s.stored a v).dma = s.dma :=
  (stored_dma_cart s a v).1.resolve_right fun htrigger => h htrigger.1

/-- The registers of the I/O page that only a write changes, and the requests, which time and reads only add to. -/
structure State.SameIo (s t : State) : Prop where
  timer : t.timer.tma = s.timer.tma ∧ t.timer.tac = s.timer.tac
  display : s.display.SameRegisters t.display
  dma : t.dma.reg = s.dma.reg
  sel : t.joypad.sel = s.joypad.sel
  requests : s.iflag &&& t.iflag = s.iflag

/-- They lie apart from the CPU, the storage arrays, the cartridge and IE. -/
theorem State.SameIo.of_others (s : State) (cpu : Cpu) (mem : Memory) (cart : Cart) (ie : BitVec 5) :
    s.SameIo { s with cpu := cpu, mem := mem, cart := cart, ie := ie } :=
  ⟨⟨rfl, rfl⟩, .refl _, rfl, rfl, BitVec.and_self⟩

theorem State.SameIo.trans {s t u : State} (h : s.SameIo t) (h' : t.SameIo u) : s.SameIo u where
  timer := ⟨h'.timer.1.trans h.timer.1, h'.timer.2.trans h.timer.2⟩
  display := h.display.trans h'.display
  dma := h'.dma.trans h.dma
  sel := h'.sel.trans h.sel
  requests := kept_trans h.requests h'.requests

theorem Ticked.sameIo {n : Nat} {s t : State} (h : Ticked n s t) : s.SameIo t :=
  ⟨h.timerRegisters, h.displayRegisters, h.dmaRegister, h.inputs.1, h.requestsKept⟩

theorem stored_sameIo (s : State) {a : Addr} (v : Byte) (h : region a ≠ .io) : s.SameIo (s.stored a v) := by
  rcases stored_cases s a v with e | ⟨-, e⟩ | ⟨-, e⟩ | ⟨-, e⟩ | ⟨-, e⟩ | ⟨hr, -⟩
  case inr.inr.inr.inr.inr => exact absurd hr h
  all_goals rw [e]; exact .of_others s _ _ _ _

/-! ### What moves leave alone -/

namespace Moves

variable {w : List Addr} {s t : State}

/-- A byte of the arrays outside OAM, to which time and transfers do nothing. -/
theorem read_other (h : Moves w s t) {a : Addr} (ha : a ∉ w) (hoam : region a ≠ .oam) :
    t.mem.read a.toNat = s.mem.read a.toNat :=
  h.kept (fun s => s.mem.read a.toNat) (fun _ _ => rfl) (fun ht => ht.memory a hoam) fun s _ v hb =>
    stored_read_other s v fun hab => ha (hab ▸ hb)

/-- A byte of OAM where no transfer runs and none is started: the DMA machine stays idle all along. -/
theorem read_idle (h : Moves w s t) {a : Addr} (ha : a ∉ w) (hidle : s.dma.active = false) (hstart : 0xFF46 ∉ w) :
    t.mem.read a.toNat = s.mem.read a.toNat ∧ t.dma = s.dma := by
  induction h with
  | refl => exact ⟨rfl, rfl⟩
  | @tail u _ _ move ih =>
    obtain ⟨hread, hdma⟩ := ih
    rw [← hread, ← hdma]
    rw [← hdma] at hidle
    cases move with
    | cpu => exact ⟨rfl, rfl⟩
    | ticked ht =>
      obtain ⟨hmem, hsame⟩ := ht.idleDma hidle
      exact ⟨by rw [hmem], hsame⟩
    | store _ v hb =>
      exact ⟨stored_read_other u v fun hab => ha (hab ▸ hb), stored_dma u v fun htrigger => hstart (htrigger ▸ hb)⟩

theorem ram (h : Moves w s t) (hw : ∀ b ∈ w, region b ≠ .extRam) : t.cart.ram = s.cart.ram :=
  h.kept (·.cart.ram) (fun _ _ => rfl) (fun ht => by rw [ht.cart]) fun s _ v hb => stored_ram s v (hw _ hb)

theorem banking (h : Moves w s t) (hw : ∀ b ∈ w, region b ≠ .romWindow) : t.cart.banking = s.cart.banking :=
  h.kept (·.cart.banking) (fun _ _ => rfl) (fun ht => by rw [ht.cart]) fun s _ v hb => stored_banking s v (hw _ hb)

theorem ie (h : Moves w s t) (hw : 0xFFFF ∉ w) : t.ie = s.ie :=
  h.kept (·.ie) (fun _ _ => rfl) Ticked.ie fun s _ v hb => stored_ie s v fun hr =>
    hw (BitVec.eq_of_toNat_eq (y := 0xFFFF) (region_ie.mp hr) ▸ hb)

theorem sameIo (h : Moves w s t) (hw : ∀ b ∈ w, region b ≠ .io) : s.SameIo t := by
  induction h with
  | refl => exact (Ticked.refl s).sameIo
  | @tail u _ _ move ih =>
    cases move with
    | cpu => exact ih.trans (.of_others u _ u.mem u.cart u.ie)
    | ticked ht => exact ih.trans ht.sameIo
    | store _ v hb => exact ih.trans (stored_sameIo u v (hw _ hb))

theorem buttons (h : Moves w s t) : t.joypad.buttons = s.joypad.buttons :=
  h.kept (·.joypad.buttons) (fun _ _ => rfl) (fun ht => ht.inputs.2.1) fun s a v _ => stored_buttons s a v

theorem hostInput (h : Moves w s t) : t.hostInput = s.hostInput :=
  h.kept (·.hostInput) (fun _ _ => rfl) (fun ht => ht.inputs.2.2) fun s a v _ => stored_hostInput s a v

end Moves

end Sys2Proof.Machine

open Sys2Proof.Machine in
/-- Settles O46: an instruction is made of moves that store where its form stores, and each place changes only by a
store that falls in it. -/
theorem frameOfStores : Obligations.FrameOfStores := by
  unfold Obligations.FrameOfStores
  intro i s t hok e
  have h := exec_moves hok e
  have fixed : s.SameConfiguration t := sameConfiguration_primitive.exec e
  refine ⟨fun a _ ha hoam => ?_, h.ram, fun hw => ?_, h.ie, fun hw => ?_, fixed.board.rom, fixed.params, h.buttons,
    h.hostInput⟩
  · by_cases hr : region a = .oam
    · obtain ⟨hidle, hstart⟩ := hoam hr
      exact (h.read_idle ha hidle hstart).1
    · exact h.read_other ha hr
  · simpa only [Cart.banking, Prod.mk.injEq] using h.banking hw
  · obtain ⟨⟨htma, htac⟩, ⟨hlcdc, hstat, hscy, hscx, hlyc, hbgp, hobp0, hobp1, hwy, hwx⟩, hdma, hsel, hif⟩ :=
      h.sameIo hw
    exact ⟨htma, htac, hlcdc, hstat, hscy, hscx, hlyc, hbgp, hobp0, hobp1, hwy, hwx, hdma, hsel, hif⟩

end

section
/-! The opcode maps, clause by clause (R130, R131). What an opcode byte without immediate bytes stands for is a fact
about that byte alone, which is decided over the values of its fields. Where immediate bytes follow they are arbitrary,
and the entry is looked up for each value of the field. -/

namespace Sys2Proof

/-- The form of an entry without immediate bytes. -/
def Entry.bareForm : Entry → Option Machine.Form
  | .op i | .skip1 i => some i.form
  | .imm8 _ | .imm16 _ => none

/-- It is the form of the opcode whatever bytes follow. -/
theorem firstForm_of_bareForm {op : Byte} {g : Machine.Form} (h : (firstEntry op).bareForm = some g) (n m : Byte) :
    firstForm op n m = some g := by
  simp only [firstForm, decodeFirst]
  cases he : firstEntry op <;> rw [he] at h
  case op | skip1 => exact h
  case imm8 | imm16 => cases h

theorem field2_cases (p : BitVec 2) : p = 0 ∨ p = 1 ∨ p = 2 ∨ p = 3 := by
  revert p
  decide

theorem field3_cases (y : BitVec 3) : y = 0 ∨ y = 1 ∨ y = 2 ∨ y = 3 ∨ y = 4 ∨ y = 5 ∨ y = 6 ∨ y = 7 := by
  revert y
  decide

/-- The eleven unused values of the first table (R130). -/
theorem bareForm_unused :
    ∀ op ∈ [0xD3, 0xDB, 0xDD, 0xE3, 0xE4, 0xEB, 0xEC, 0xED, 0xF4, 0xFC, 0xFD],
      (firstEntry op).bareForm = some (.illegal op) := by decide

end Sys2Proof

open Sys2Proof in
/-- Settles O3: the regular clauses by the values of their fields, then the listed entries one by one. -/
theorem opcodeMaps : Obligations.OpcodeMaps := by
  unfold Obligations.OpcodeMaps
  intro n m
  refine ⟨fun y z => firstForm_of_bareForm ?loads n m, fun y z => firstForm_of_bareForm ?arithmetic n m,
    fun y => ?byRegister, fun p => ?byPair, fun y z => ?second, ?listed⟩
  case loads | arithmetic | second =>
    revert y z
    decide
  case byRegister =>
    rcases field3_cases y with rfl | rfl | rfl | rfl | rfl | rfl | rfl | rfl <;> exact ⟨rfl, rfl, rfl, rfl, rfl⟩
  case byPair => rcases field2_cases p with rfl | rfl | rfl | rfl <;> and_intros <;> rfl
  case listed =>
    iterate 38 refine ⟨rfl, ?_⟩
    exact fun op unused => firstForm_of_bareForm (bareForm_unused op unused) n m

end

section
/-! The 8-bit loads and `LD (nn),SP`: what each form's operation leaves where its accesses are safe, with every address
read from the CPU as it was before (R151 to R170, R181). -/

namespace Sys2Proof.Machine

/-- Each pointer's effective address, written out of the registers' bytes (R170). -/
theorem Pointer.addr_eq (x : Pointer) (c : Cpu) :
    x.addr c = match x with
      | .pair .bc => c.b ++ c.c
      | .pair .de => c.d ++ c.e
      | .abs nn => nn
      | .highC => 0xFF#8 ++ c.c
      | .high n => 0xFF#8 ++ n := by
  cases x with
  | pair p => cases p <;> rfl
  | abs nn => rfl
  | highC => exact highPage_eq c.c
  | high n => exact highPage_eq n

/-- A load of A through a pointer is `loadA` at its address. -/
theorem formOp_loadA (x : Pointer) (s : State) : formOp (.loadA x) s = loadA (x.addr s.cpu) s := by
  cases x <;> rfl

/-- A store of A through a pointer is `storeA` at its address. -/
theorem formOp_storeA (x : Pointer) (s : State) : formOp (.storeA x) s = storeA (x.addr s.cpu) s := by
  cases x <;> rfl

theorem ldMemReg_ok {s : State} (r : Reg8) (h : s.accessSafe s.cpu.hl) :
    ldMemReg r s = .ok () ((s.later 1).stored s.cpu.hl (s.cpu.reg8 r)) := memWrite_ok _ h

theorem ldMemImm_ok {s : State} (n : Byte) (h : s.accessSafe s.cpu.hl) :
    ldMemImm n s = .ok () ((s.later 1).stored s.cpu.hl n) := memWrite_ok _ h

theorem ldAFromHlStep_ok {s : State} (k : HlStep) (h : s.accessSafe s.cpu.hl) :
    ldAFromHlStep k s = .ok ()
      (((s.later 1).loaded s.cpu.hl).withCpu (({ s.cpu with a := (s.later 1).peek s.cpu.hl } : Cpu).stepHl k)) := by
  unfold ldAFromHlStep
  rw [look_bind, bind_of_ok (loadA_ok h), updateCpu_run, withCpu_cpu, withCpu_withCpu]

theorem ldHlStepFromA_ok {s : State} (k : HlStep) (h : s.accessSafe s.cpu.hl) :
    ldHlStepFromA k s = .ok () (((s.later 1).stored s.cpu.hl s.cpu.a).withCpu (s.cpu.stepHl k)) := by
  unfold ldHlStepFromA
  rw [look_bind, bind_of_ok (storeA_ok h), updateCpu_run, stored_cpu, later_cpu 1 h.1]

/-- The second store is safe because the first, of the low byte, is one that keeps later accesses safe. -/
theorem ldMemSp_ok {s : State} {nn : Addr} (hlo : s.accessSafe nn) (hst : s.storeSafe nn)
    (hhi : s.accessSafe (nn + 1)) :
    ldMemSp nn s = .ok ()
      ((((s.later 1).stored nn (loByte s.cpu.sp)).later 1).stored (nn + 1) (hiByte s.cpu.sp)) := by
  unfold ldMemSp
  rw [look_bind, bind_of_ok (memWrite_ok _ hlo)]
  exact memWrite_ok _ (stored_accessSafe _ (later_chargeSafe 1 hlo.1) (storeSafe_of (later_cart 1 hlo.1) hst)
    (later_accessSafe 1 hhi))

end Sys2Proof.Machine

open Sys2Proof.Machine in
/-- Settles O26: the operation of each form, its address written out by `Pointer.addr_eq` or stepped by its direction. -/
theorem memoryLoads : Obligations.MemoryLoads := by
  unfold Obligations.MemoryLoads
  intro i s
  refine ⟨fun r hi h => exec_of_form hi (ldRegMem_ok r h), fun x a hi ha h => ?pointer, fun k hi h => ?step⟩
  case pointer =>
    obtain rfl : a = x.addr s.cpu := ha.trans (x.addr_eq s.cpu).symm
    exact exec_of_form hi ((formOp_loadA x s).trans (loadA_ok h))
  case step => cases k <;> exact exec_of_form hi (ldAFromHlStep_ok _ h)

open Sys2Proof.Machine in
/-- Settles O27: the operation of each form; `LD (nn),SP` is the one with a second access (`ldMemSp_ok`). -/
theorem memoryStores : Obligations.MemoryStores := by
  unfold Obligations.MemoryStores
  intro i s
  refine ⟨fun r hi h => exec_of_form hi (ldMemReg_ok r h), fun n hi h => exec_of_form hi (ldMemImm_ok n h),
    fun x a hi ha h => ?pointer, fun k hi h => ?step,
    fun nn hi hlo hst hhi => exec_of_form hi (ldMemSp_ok hlo hst hhi)⟩
  case pointer =>
    obtain rfl : a = x.addr s.cpu := ha.trans (x.addr_eq s.cpu).symm
    exact exec_of_form hi ((formOp_storeA x s).trans (storeA_ok h))
  case step => cases k <;> exact exec_of_form hi (ldHlStepFromA_ok _ h)

open Sys2Proof.Machine in
/-- Settles O25: both forms' operations are one update of the CPU, which completes in every state. -/
theorem registerLoads : Obligations.RegisterLoads := by
  unfold Obligations.RegisterLoads
  intro i s
  exact ⟨fun dst src hi => exec_of_form hi (updateCpu_run (fun c => c.setReg8 dst (c.reg8 src)) s),
    fun dst n hi => exec_of_form hi (updateCpu_run (fun c => c.setReg8 dst n) s)⟩

end

section
/-! The 16-bit loads and the stack: what each form's operation leaves where its charges and accesses cannot end the run
(R180, R182 to R185). -/

namespace Sys2Proof.Machine

theorem ldPairImm_run (p : Pair) (nn : BitVec 16) (s : State) :
    ldPairImm p nn s = .ok () (s.withCpu (s.cpu.setPair p nn)) := updateCpu_run _ s

theorem ldSpFromHl_ok {s : State} (h : s.chargeSafe) :
    ldSpFromHl s = .ok () ((s.later 1).withCpu { s.cpu with sp := s.cpu.hl }) := by
  unfold ldSpFromHl
  rw [bind_of_ok (internal_ok h), updateCpu_run, later_cpu 1 h]

theorem ldHlSpImm_ok {s : State} (e : Byte) (h : s.chargeSafe) :
    ldHlSpImm e s = .ok ()
      ((s.later 1).withCpu ((s.cpu.setHl (addSp8 s.cpu.sp e).1).setFlags (addSp8 s.cpu.sp e).2)) := by
  unfold ldHlSpImm
  rw [bind_of_ok (internal_ok h), updateCpu_run, later_cpu 1 h]

/-- The internal cycle before the push is one more idle cycle of the push (R184). -/
theorem pushPair_ok {s : State} (p : StackPair) (h : s.pushSafe) :
    pushPair p s = .ok () (s.pushed 1 (s.cpu.stackPair p)) := by
  have hs : s.chargeSafe := h.1.1
  unfold pushPair
  rw [bind_of_ok (internal_ok hs), look_bind, push16_ok _ (later_pushSafe 1 h), later_pushed 1 0 _ hs, later_cpu 1 hs]

@[simp] theorem popped_cpu (s : State) : s.popped.cpu = { s.cpu with sp := s.cpu.sp + 2 } := rfl

theorem popPair_ok {s : State} (p : StackPair) (h : s.popSafe) :
    popPair p s = .ok () (s.popped.withCpu (s.popped.cpu.setStackPair p s.poppedWord)) := by
  unfold popPair
  rw [bind_of_ok (pop16_ok h), updateCpu_run]

end Sys2Proof.Machine

open Sys2Proof Sys2Proof.Machine in
/-- Settles O28: the operation of each form, with `setPair` read off at each pair and the flags those of `addSp8`. -/
theorem pairLoads : Obligations.PairLoads := by
  unfold Obligations.PairLoads
  intro i s
  refine ⟨fun nn => ?immediate, fun h =>
    ⟨fun hi => exec_of_form hi (ldSpFromHl_ok h), fun e hi => exec_of_form hi (ldHlSpImm_ok e h)⟩⟩
  have load (p : Pair) (hi : i.form = .ldPairImm p nn) : exec i s = .next (s.withCpu (s.cpu.setPair p nn)) :=
    exec_of_form hi (ldPairImm_run p nn s)
  exact ⟨load .bc, load .de, load .hl, load .sp⟩

open Sys2Proof Sys2Proof.Machine in
/-- Settles O29: the push of any pair (`pushPair_ok`), with the word of each read off its registers. -/
theorem pushResult : Obligations.PushResult := by
  unfold Obligations.PushResult
  intro i s h
  have push (p : StackPair) (hi : i.form = .push p) : exec i s = .next (s.pushed 1 (s.cpu.stackPair p)) :=
    exec_of_form hi (pushPair_ok p h)
  exact ⟨push .bc, push .de, push .hl, push .af⟩

open Sys2Proof Sys2Proof.Machine in
/-- Settles O30: the pop of any pair (`popPair_ok`), with `setStackPair` read off at each; AF is the one that masks F. -/
theorem popResult : Obligations.PopResult := by
  unfold Obligations.PopResult
  intro i s h
  have pop (p : StackPair) (hi : i.form = .pop p) :
      exec i s = .next (s.popped.withCpu (s.popped.cpu.setStackPair p s.poppedWord)) :=
    exec_of_form hi (popPair_ok p h)
  exact ⟨popped_cpu s, pop .bc, pop .de, pop .hl, pop .af⟩

end

section
/-! The 8-bit arithmetic and logic: the flag functions in the numbers the statements are written in (R190, R191, R216,
R218, R220), and what the ALU field's operations share. -/

namespace Sys2Proof.Machine

/-! ### Sums and differences (R191) -/

/-- A byte narrowed from a number is zero where the number is a multiple of 256. -/
theorem byte_ofNat_eq_zero (n : Nat) : decide (BitVec.ofNat 8 n = 0) = decide (n % 256 = 0) := by
  rw [decide_eq_decide, ← BitVec.toNat_inj]
  exact Iff.rfl

theorem add8_eq (a b : Byte) (cin : Bool) :
    add8 a b cin = (BitVec.ofNat 8 (a.toNat + b.toNat + cin.toNat),
      { z := decide ((a.toNat + b.toNat + cin.toNat) % 256 = 0), n := false
        h := decide (a.toNat % 16 + b.toNat % 16 + cin.toNat > 15)
        c := decide (a.toNat + b.toNat + cin.toNat > 255) }) := by
  simp only [add8, byte_ofNat_eq_zero]
  rfl

/-- The difference of bytes narrowed: 512 is a multiple of 256 that keeps the subtraction within the naturals. -/
theorem ofInt_sub_eq (a b : Byte) (cin : Bool) :
    BitVec.ofInt 8 ((a.toNat : Int) - b.toNat - cin.toNat) = BitVec.ofNat 8 (a.toNat + 512 - b.toNat - cin.toNat) := by
  have hb := b.isLt
  have hc := cin.toNat_le
  apply BitVec.eq_of_toNat_eq
  rw [BitVec.toNat_ofInt, BitVec.toNat_ofNat]
  omega

theorem sub8_eq (a b : Byte) (cin : Bool) :
    sub8 a b cin = (BitVec.ofNat 8 (a.toNat + 512 - b.toNat - cin.toNat),
      { z := decide ((a.toNat + 512 - b.toNat - cin.toNat) % 256 = 0), n := true
        h := decide (a.toNat % 16 < b.toNat % 16 + cin.toNat)
        c := decide (a.toNat < b.toNat + cin.toNat) }) := by
  have hh : ((lowNibble a : Int) - lowNibble b - cin.toNat < 0) ↔ a.toNat % 16 < b.toNat % 16 + cin.toNat := by
    unfold lowNibble
    omega
  have hc : ((a.toNat : Int) - b.toNat - cin.toNat < 0) ↔ a.toNat < b.toNat + cin.toNat := by omega
  unfold sub8
  simp only [ofInt_sub_eq, byte_ofNat_eq_zero, decide_eq_decide.mpr hh, decide_eq_decide.mpr hc]

/-- ADD and ADC differ in the carry they take in. -/
theorem alu8_add (withCarry : Bool) (a b : Byte) (f : Flags) :
    alu8 (if withCarry then .adc else .add) a b f = add8 a b (withCarry && f.c) := by
  cases withCarry <;> rfl

/-- SUB, SBC and CP differ in the borrow they take in and in whether A is kept. -/
theorem alu8_sub {op : AluOp} (hop : op = .sub ∨ op = .sbc ∨ op = .cp) (a b : Byte) (f : Flags) :
    alu8 op a b f =
      let r := sub8 a b (decide (op = .sbc) && f.c)
      (if op = .cp then a else r.1, r.2) := by
  rcases hop with rfl | rfl | rfl <;> rfl

/-- Every form of an operation on A, from the operation's result and flags. -/
theorem exec_alu {i : Instr} {op : AluOp} {x : Source} {s : State} {r : Byte × Flags} (hi : i.form = .alu op x)
    (hx : x.safe s) (hr : alu8 op s.cpu.a (x.value s) s.cpu.flags = r) :
    exec i s = .next ((x.read s).withCpu (({ s.cpu with a := r.1 } : Cpu).setFlags r.2)) := by
  subst hr
  exact exec_of_form hi (alu_ok op hx)

/-! ### Increment and decrement (R216, R218) -/

theorem inc8_eq (v : Byte) (f : Flags) :
    inc8 v f = (v + 1, { z := decide (v = 0xFF), n := false, h := decide (v.toNat % 16 = 15), c := f.c }) := by
  have hz : v + 1 = 0 ↔ v = 0xFF := by bv_omega
  simp only [inc8, decide_eq_decide.mpr hz]
  rfl

theorem dec8_eq (v : Byte) (f : Flags) :
    dec8 v f = (v - 1, { z := decide (v = 0x01), n := true, h := decide (v.toNat % 16 = 0), c := f.c }) := by
  have hz : v - 1 = 0 ↔ v = 0x01 := by bv_omega
  simp only [dec8, decide_eq_decide.mpr hz]
  rfl

/-! ### Decimal adjustment (R220) -/

/-- What DAA adds to A, or takes from it. -/
def daaOffset (high low : Bool) : Nat := (if high then 0x60 else 0) + (if low then 0x06 else 0)

/-- The two additions of DAA are one addition of the whole adjustment. -/
theorem daa_add_eq (a : Byte) (high low : Bool) :
    (if low then (if high then a + 0x60 else a) + 0x06 else if high then a + 0x60 else a) =
      BitVec.ofNat 8 (a.toNat + daaOffset high low) := by
  cases high <;> cases low <;> simp only [daaOffset, if_true, if_false, Bool.false_eq_true] <;> bv_omega

/-- The two subtractions of DAA are one subtraction of the whole adjustment. -/
theorem daa_sub_eq (a : Byte) (high low : Bool) :
    (if low then (if high then a - 0x60 else a) - 0x06 else if high then a - 0x60 else a) =
      BitVec.ofNat 8 (a.toNat + 256 - daaOffset high low) := by
  cases high <;> cases low <;> simp only [daaOffset, if_true, if_false, Bool.false_eq_true] <;> bv_omega

theorem daa8_eq (a : Byte) (f : Flags) :
    let high := f.c || (!f.n && decide (a.toNat > 0x99))
    let low := f.h || (!f.n && decide (a.toNat % 16 > 9))
    let r := BitVec.ofNat 8 (if f.n then a.toNat + 256 - daaOffset high low else a.toNat + daaOffset high low)
    daa8 a f = (r, { z := decide (r = 0), n := f.n, h := false, c := high }) := by
  obtain ⟨z, n, h, c⟩ := f
  cases n with
  | true => simp only [daa8, daa_sub_eq, if_true, Bool.not_true, Bool.false_and, Bool.or_false]
  | false =>
    simp only [daa8, lowNibble, daa_add_eq, if_false, Bool.false_eq_true, Bool.not_false, Bool.true_and, gt_iff_lt]

/-! ### The operations that only adjust A and the flags (R220 to R223) -/

theorem daaOp_run (s : State) :
    daaOp s = .ok ()
      (s.withCpu (({ s.cpu with a := (daa8 s.cpu.a s.cpu.flags).1 } : Cpu).setFlags (daa8 s.cpu.a s.cpu.flags).2)) :=
  updateCpu_run _ s

/-- The exclusive or with 0xFF is the complement (R221). -/
theorem cplOp_run (s : State) :
    cplOp s = .ok ()
      (s.withCpu (({ s.cpu with a := ~~~s.cpu.a } : Cpu).setFlags { s.cpu.flags with n := true, h := true })) := by
  have ha : s.cpu.a ^^^ 0xFF = ~~~s.cpu.a := BitVec.xor_allOnes
  unfold cplOp
  rw [updateCpu_run, cpl8, ha]

theorem scfOp_run (s : State) : scfOp s = .ok () (s.withCpu (s.cpu.setFlags (scfFlags s.cpu.flags))) :=
  updateCpu_run _ s

theorem ccfOp_run (s : State) : ccfOp s = .ok () (s.withCpu (s.cpu.setFlags (ccfFlags s.cpu.flags))) :=
  updateCpu_run _ s

end Sys2Proof.Machine

open Sys2Proof Sys2Proof.Machine in
/-- Settles O32: `add8` with the carry of `alu8_add`, in the numbers of `add8_eq`. -/
theorem addAdcResult : Obligations.AddAdcResult := by
  unfold Obligations.AddAdcResult
  intro i x withCarry s hi hx
  exact exec_alu hi hx ((alu8_add ..).trans (add8_eq ..))

open Sys2Proof Sys2Proof.Machine in
/-- Settles O33: `sub8` with the borrow of `alu8_sub`, in the numbers of `sub8_eq`; CP discards the difference. -/
theorem subSbcCpResult : Obligations.SubSbcCpResult := by
  unfold Obligations.SubSbcCpResult
  intro i op x s hop hi hx
  have hr := alu8_sub hop s.cpu.a (x.value s) s.cpu.flags
  rw [sub8_eq] at hr
  exact exec_alu hi hx hr

open Sys2Proof Sys2Proof.Machine in
/-- Settles O34: each operation's result and flags are those of its `alu8` case. -/
theorem logicResult : Obligations.LogicResult := by
  unfold Obligations.LogicResult
  intro i x s hx
  exact ⟨fun hi => exec_alu hi hx rfl, fun hi => exec_alu hi hx rfl, fun hi => exec_alu hi hx rfl⟩

open Sys2Proof Sys2Proof.Machine in
/-- Settles O35: the read-modify-write of a place (`inc8_ok`, `dec8_ok`), with Zf read off the operand. -/
theorem incDecResult : Obligations.IncDecResult := by
  unfold Obligations.IncDecResult
  intro i x s hx
  refine ⟨fun hi => ?inc, fun hi => ?dec⟩
  case inc =>
    have h := exec_of_form hi (inc8_ok hx)
    rwa [inc8_eq] at h
  case dec =>
    have h := exec_of_form hi (dec8_ok hx)
    rwa [dec8_eq] at h

open Sys2Proof Sys2Proof.Machine in
/-- Settles O36: each is one update of the CPU; DAA's two steps are one by `daa8_eq`, CPL's XOR is a complement. -/
theorem adjustResult : Obligations.AdjustResult := by
  unfold Obligations.AdjustResult
  intro i s
  refine ⟨fun hi => ?daa, fun hi => exec_of_form hi (cplOp_run s), fun hi => exec_of_form hi (scfOp_run s),
    fun hi => exec_of_form hi (ccfOp_run s)⟩
  have h := exec_of_form hi (daaOp_run s)
  rwa [daa8_eq] at h

end

section
/-! The 16-bit arithmetic: what an update of the CPU after internal cycles leaves where the cycles cannot end the run
(R230 to R233). -/

namespace Sys2Proof.Machine

/-- The update reads the CPU as it was before the cycle: time does not change it. -/
theorem internal_updateCpu_ok {s : State} (f : Cpu → Cpu) (h : s.chargeSafe) :
    (internal >>= fun _ => updateCpu f) s = .ok () ((s.later 1).withCpu (f s.cpu)) := by
  rw [bind_of_ok (internal_ok h), updateCpu_run, later_cpu 1 h]

theorem addHlPair_ok {s : State} (p : Pair) (h : s.chargeSafe) :
    addHlPair p s = .ok () ((s.later 1).withCpu
      ((s.cpu.setHl (add16 s.cpu.hl (s.cpu.pair p) s.cpu.flags).1).setFlags
        (add16 s.cpu.hl (s.cpu.pair p) s.cpu.flags).2)) := internal_updateCpu_ok _ h

theorem incPair_ok {s : State} (p : Pair) (h : s.chargeSafe) :
    incPair p s = .ok () ((s.later 1).withCpu (s.cpu.setPair p (s.cpu.pair p + 1))) := internal_updateCpu_ok _ h

theorem decPair_ok {s : State} (p : Pair) (h : s.chargeSafe) :
    decPair p s = .ok () ((s.later 1).withCpu (s.cpu.setPair p (s.cpu.pair p - 1))) := internal_updateCpu_ok _ h

/-- The two internal cycles of `ADD SP,e` are one stretch of two machine cycles (R233). -/
theorem addSpImm_ok {s : State} (e : Byte) (h : s.chargeSafe) :
    addSpImm e s = .ok () ((s.later 2).withCpu
      (({ s.cpu with sp := (addSp8 s.cpu.sp e).1 } : Cpu).setFlags (addSp8 s.cpu.sp e).2)) := by
  unfold addSpImm
  rw [bind_of_ok (internal_ok h), internal_updateCpu_ok _ (later_chargeSafe 1 h), later_later 1 1 h, later_cpu 1 h]

end Sys2Proof.Machine

open Sys2Proof Sys2Proof.Machine in
/-- Settles O37: the operation of each form; `add16` and `addSp8` are written in the statement's sums and carries. -/
theorem pairArithmetic : Obligations.PairArithmetic := by
  unfold Obligations.PairArithmetic
  intro i s h
  exact ⟨fun p hi => exec_of_form hi (addHlPair_ok p h), fun p hi => exec_of_form hi (incPair_ok p h),
    fun p hi => exec_of_form hi (decPair_ok p h), fun e hi => exec_of_form hi (addSpImm_ok e h)⟩

end

section
/-! The rotates, shifts and bit operations: the shift functions as the word operations the statements are written in
(R266), and RES and SET by their result's bits (R262, R264). -/

namespace Sys2Proof.Machine

/-! ### The shift functions (R266) -/

/-- A concatenation is the word that has the low part's bits and, above them, the high part's. -/
theorem append_eq_of_getLsbD {m n : Nat} {hi : BitVec m} {lo : BitVec n} {v : BitVec (m + n)}
    (low : ∀ i < n, lo.getLsbD i = v.getLsbD i) (high : ∀ i < m, hi.getLsbD i = v.getLsbD (n + i)) : hi ++ lo = v := by
  apply BitVec.eq_of_getLsbD_eq
  intro i h
  rw [BitVec.getLsbD_append]
  split
  case isTrue hn => exact low i hn
  case isFalse hn => rw [high (i - n) (by omega), Nat.add_sub_cancel' (by omega)]

/-- The high `n` bits moved below the others: RLC with one bit, SWAP with four. -/
theorem extractLsb'_append_eq_rotateLeft {m n : Nat} (v : BitVec (m + n)) (hm : 0 < m) :
    v.extractLsb' 0 m ++ v.extractLsb' m n = v.rotateLeft n := by
  have hn : n < m + n := by omega
  refine append_eq_of_getLsbD (fun i hi => ?low) fun i hi => ?high <;> rw [BitVec.getLsbD_rotateLeft_of_le hn]
  case low => simp [hi]
  case high =>
    have hi' : n + i < m + n := by omega
    simp [hi, hi']

/-- A rotation to the right is the rotation to the left by the rest of the width: RRC as a rotation by seven. -/
theorem rotateRight_eq_rotateLeft {m n : Nat} (v : BitVec (m + n)) (hm : 0 < m) (hn : 0 < n) :
    v.rotateRight m = v.rotateLeft n := by
  rw [BitVec.rotateRight_def, BitVec.rotateLeft_def, Nat.mod_eq_of_lt (by omega : m < m + n),
    Nat.mod_eq_of_lt (by omega : n < m + n), Nat.add_sub_cancel_left, Nat.add_sub_cancel, BitVec.or_comm]

/-- A bit shifted in from the right: RL with the carry, SLA with 0. -/
theorem extractLsb'_append_ofBool (v : Byte) (b : Bool) :
    v.extractLsb' 0 7 ++ BitVec.ofBool b = v <<< 1 ||| (BitVec.ofBool b).setWidth 8 := by
  refine append_eq_of_getLsbD (m := 7) (n := 1) (fun i hi => ?low) fun i hi => ?high
  case low =>
    obtain rfl : i = 0 := by omega
    simp
  case high =>
    have hv : i < 8 := by omega
    have hi' : 1 + i < 8 := by omega
    simp [hi, hi', BitVec.getLsbD_eq_getElem hv]

/-- A bit shifted in from the left: RR with the carry, SRL with 0. -/
theorem ofBool_append_extractLsb' (v : Byte) (b : Bool) :
    BitVec.ofBool b ++ v.extractLsb' 1 7 = v >>> 1 ||| (BitVec.ofBool b).setWidth 8 <<< 7 := by
  refine append_eq_of_getLsbD (m := 1) (n := 7) (fun i hi => ?low) fun i hi => ?high
  case low => simp [hi]
  case high =>
    obtain rfl : i = 0 := by omega
    simp

/-- The sign kept and the seven high bits moved down: SRA. -/
theorem extractLsb'_append_eq_sshiftRight (v : Byte) :
    v.extractLsb' 7 1 ++ v.extractLsb' 1 7 = v.sshiftRight 1 := by
  refine append_eq_of_getLsbD (m := 1) (n := 7) (fun i hi => ?low) fun i hi => ?high
  case low =>
    have hv : ¬ 8 ≤ i := by omega
    have hi' : 1 + i < 8 := by omega
    simp [BitVec.getLsbD_sshiftRight, hi, hi', hv]
  case high =>
    obtain rfl : i = 0 := by omega
    simp [BitVec.getElem_sshiftRight, BitVec.msb_eq_getLsbD_last]

/-! ### The rotates and shifts -/

/-- Every second-table rotate or shift, from its function's result and carry-out. -/
theorem exec_rot {i : Instr} {op : RotOp} {x : Place} {s : State} {r : Byte × Bool} (hi : i.form = .rot op x)
    (hx : x.safe s) (hr : rot8 op (x.value s) s.cpu.flags.c = r) :
    exec i s = .next (x.written s
      (s.cpu.setFlags { z := decide (r.1 = 0), n := false, h := false, c := r.2 }) r.1) := by
  subst hr
  exact exec_of_form hi (rot_ok op hx)

theorem accRotate_run (op : AccRot) (s : State) :
    accRotate op s = .ok () (s.withCpu
      (({ s.cpu with a := (accRot8 op s.cpu.a s.cpu.flags).1 } : Cpu).setFlags (accRot8 op s.cpu.a s.cpu.flags).2)) :=
  updateCpu_run _ s

/-- Every accumulator rotate, from its function's result and carry-out. -/
theorem exec_accRot {i : Instr} {op : AccRot} {s : State} {r : Byte × Bool} (hi : i.form = .accRot op)
    (hr : rot8 (accRotOp op) s.cpu.a s.cpu.flags.c = r) :
    exec i s = .next (s.withCpu
      (({ s.cpu with a := r.1 } : Cpu).setFlags { z := false, n := false, h := false, c := r.2 })) := by
  subst hr
  exact exec_of_form hi (accRotate_run op s)

/-! ### RES and SET (R262, R264) -/

theorem getLsbD_one_shiftLeft (b : Fin 8) (k : Nat) : (1#8 <<< b.val).getLsbD k = decide (b.val = k) := by
  rw [← BitVec.twoPow_eq, BitVec.getLsbD_twoPow, decide_eq_true b.isLt, Bool.true_and]

theorem getLsbD_resBit (b : Fin 8) (v : Byte) {k : Nat} (hk : k < 8) :
    (resBit b v).getLsbD k = if k = b.val then false else v.getLsbD k := by
  rw [resBit, BitVec.getLsbD_and, BitVec.getLsbD_not, getLsbD_one_shiftLeft]
  by_cases h : b.val = k
  · simp [h]
  · simp [h, hk, Ne.symm h]

theorem getLsbD_setBit (b : Fin 8) (v : Byte) (k : Nat) :
    (setBit b v).getLsbD k = if k = b.val then true else v.getLsbD k := by
  rw [setBit, BitVec.getLsbD_or, getLsbD_one_shiftLeft]
  by_cases h : b.val = k
  · simp [h]
  · simp [h, Ne.symm h]

end Sys2Proof.Machine

open Sys2Proof Sys2Proof.Machine in
/-- Settles O38: each form's operation takes its result from `rot8`, whose concatenations of bit fields are the
statement's rotations and shifts. -/
theorem rotateResult : Obligations.RotateResult := by
  unfold Obligations.RotateResult
  intro i s f
  have hf (op : RotOp) (v : Byte) : rot8 op v s.cpu.flags.c = f op v := by
    cases op with
    | rlc => exact congrArg (·, _) (extractLsb'_append_eq_rotateLeft (m := 7) (n := 1) v (by decide))
    | rrc =>
      exact congrArg (·, _) ((extractLsb'_append_eq_rotateLeft (m := 1) (n := 7) v (by decide)).trans
        (rotateRight_eq_rotateLeft (m := 1) (n := 7) v (by decide) (by decide)).symm)
    | rl => exact congrArg (·, _) (extractLsb'_append_ofBool v _)
    | rr => exact congrArg (·, _) (ofBool_append_extractLsb' v _)
    | sla => exact congrArg (·, _) ((extractLsb'_append_ofBool v false).trans BitVec.or_zero)
    | sra => exact congrArg (·, _) (extractLsb'_append_eq_sshiftRight v)
    | swap => exact congrArg (·, _) (extractLsb'_append_eq_rotateLeft (m := 4) (n := 4) v (by decide))
    | srl => exact congrArg (·, _) ((ofBool_append_extractLsb' v false).trans BitVec.or_zero)
  refine ⟨fun a op hi hop => ?acc, fun op x hi hx => exec_rot hi hx (hf op _)⟩
  obtain rfl : op = accRotOp a := hop
  exact exec_accRot hi (hf _ _)

open Sys2Proof Sys2Proof.Machine in
/-- Settles O39: the operation of each form; the byte RES or SET writes is the only one with the statement's eight bits. -/
theorem bitResult : Obligations.BitResult := by
  unfold Obligations.BitResult
  intro i b x s hx
  refine ⟨fun hi => exec_of_form hi (bit_ok b hx), fun r hr hi => ?res, fun r hr hi => ?set⟩
  case res =>
    obtain rfl : r = resBit b (x.value s) :=
      BitVec.eq_of_getLsbD_eq fun k hk => (hr k hk).trans (getLsbD_resBit b _ hk).symm
    exact exec_of_form hi (res_ok b hx)
  case set =>
    obtain rfl : r = setBit b (x.value s) :=
      BitVec.eq_of_getLsbD_eq fun k hk => (hr k hk).trans (getLsbD_setBit b _ k).symm
    exact exec_of_form hi (set_ok b hx)

end

section
/-! Control transfer: what a conditional form does for either value of its condition, RETI, RET cc and RST (R270 to
R280, R283). -/

namespace Sys2Proof.Machine

/-- A transfer whose form has no condition, or one that holds, is its plain form's operation (R270). -/
theorem exec_of_taken {i : Instr} {plain : Form} {conditional : Cond → Form} {s t : State}
    (hi : i.form = plain ∨ ∃ cc, i.form = conditional cc ∧ s.cpu.cond cc = true)
    (hop : ∀ cc, formOp (conditional cc) = whenCond cc (formOp plain)) (h : formOp plain s = .ok () t) :
    exec i s = .next t := by
  rcases hi with hi | ⟨cc, hi, hcc⟩
  · exact exec_of_form hi h
  · exact exec_of_form hi (by rw [hop, whenCond_true _ hcc, h])

/-- A transfer whose condition is false changes nothing (R270). -/
theorem exec_of_not_taken {i : Instr} {f : Form} {cc : Cond} {op : Op Unit} {s : State} (hi : i.form = f)
    (hop : formOp f = whenCond cc op) (hcc : s.cpu.cond cc = false) : exec i s = .next s :=
  exec_of_form hi (by rw [hop, whenCond_false _ hcc])

theorem jpHlOp_run (s : State) : jpHlOp s = .ok () (s.withCpu { s.cpu with pc := s.cpu.hl }) := updateCpu_run _ s

/-- The target of RST as a number: it fits its sixteen bits (R129). -/
theorem rstTarget_toNat (y : Fin 8) : (rstTarget y).toNat = 8 * y.val := by
  rw [rstTarget, BitVec.toNat_ofNat]
  omega

theorem retiOp_ok {s : State} (h : s.popSafe) :
    retiOp s = .ok () ((s.popped.later 1).withCpu { s.popped.cpu with pc := s.poppedWord, ime := true }) := by
  unfold retiOp returnFromInterrupt
  rw [bind_of_ok (returnOp_ok h), updateCpu_run, withCpu_cpu, withCpu_withCpu]

/-- The cycle that evaluates the condition leaves the condition and the stack pointer as they were. -/
theorem retCondOp_taken {s : State} {cc : Cond} (h : s.popSafe) (hcc : s.cpu.cond cc = true) :
    retCondOp cc s = .ok ()
      (((s.later 1).popped.later 1).withCpu { s.popped.cpu with pc := (s.later 1).poppedWord }) := by
  have hcpu : (s.later 1).cpu = s.cpu := later_cpu 1 h.1.1
  unfold retCondOp
  rw [bind_of_ok (internal_ok h.1.1), whenCond_true _ (by rwa [hcpu]), returnOp_ok (later_popSafe 1 h), popped_cpu,
    hcpu, popped_cpu]

theorem retCondOp_not_taken {s : State} {cc : Cond} (h : s.chargeSafe) (hcc : s.cpu.cond cc = false) :
    retCondOp cc s = .ok () (s.later 1) := by
  unfold retCondOp
  rw [bind_of_ok (internal_ok h), whenCond_false _ (by rwa [later_cpu 1 h])]

end Sys2Proof.Machine

open Sys2Proof Sys2Proof.Machine in
/-- Settles O40: taken, a jump is its plain form's operation; not taken, it is none. The statement's conditions on the
bits of F are the model's. -/
theorem jumpResult : Obligations.JumpResult := by
  unfold Obligations.JumpResult
  intro i s c z cy cond
  have hcond : cond = s.cpu.cond := by
    funext cc
    cases cc <;> rfl
  rw [hcond]
  refine ⟨fun hi => exec_of_form hi (jpHlOp_run s),
    fun nn hi h => exec_of_taken hi (fun _ => rfl) (jpOp_ok nn h),
    fun e hi h => exec_of_taken hi (fun _ => rfl) (jrOp_ok e h), fun cc hcc hi => ?notTaken⟩
  rcases hi with ⟨nn, hi | hi⟩ | ⟨e, hi⟩ <;> exact exec_of_not_taken hi rfl hcc

open Sys2Proof Sys2Proof.Machine in
/-- Settles O41: CALL, CALL cc taken and RST are one operation (`callOp_ok`); RST's target is the one of its
number. -/
theorem callResult : Obligations.CallResult := by
  unfold Obligations.CallResult
  intro i target s h hi
  rw [← or_assoc] at hi
  rcases hi with hi | ⟨y, hi, ht⟩
  case inl => exact exec_of_taken hi (fun _ => rfl) (callOp_ok target h)
  case inr =>
    obtain rfl : target = rstTarget y := BitVec.eq_of_toNat_eq (ht.trans (rstTarget_toNat y).symm)
    exact exec_of_form hi (callOp_ok _ h)

open Sys2Proof Sys2Proof.Machine in
/-- Settles O42: the operation of each form, RET cc's by the value of its condition. -/
theorem returnResult : Obligations.ReturnResult := by
  unfold Obligations.ReturnResult
  intro i s h
  exact ⟨fun hi => exec_of_form hi (returnOp_ok h), fun hi => exec_of_form hi (retiOp_ok h),
    fun cc hi hcc => exec_of_form hi (retCondOp_taken h hcc),
    fun cc hi hcc => exec_of_form hi (retCondOp_not_taken h.1.1 hcc)⟩

end

section
/-! The miscellaneous and system instructions: the mode flag of each, and what STOP and an unused opcode answer for either
value of their parameter (R290 to R297, R330, R331). -/

namespace Sys2Proof.Machine

/-! ### The mode flags (R291 to R296) -/

theorem haltOp_run (s : State) : haltOp s = .ok () (s.withCpu { s.cpu with halted := true }) := updateCpu_run _ s

theorem diOp_run (s : State) : diOp s = .ok () (s.withCpu { s.cpu with ime := false, imeSched := false }) :=
  updateCpu_run _ s

theorem eiOp_run (s : State) : eiOp s = .ok () (s.withCpu { s.cpu with imeSched := true }) := updateCpu_run _ s

theorem prefixOp_run (s : State) : prefixOp s = .ok () (s.withCpu { s.cpu with prefixedPending := true }) :=
  updateCpu_run _ s

/-! ### STOP and the unused opcodes, by the value of their parameter (R292, R297) -/

theorem raise_run {α : Type} (r : Raise) (s : State) : (raise r : Op α) s = .error r s := rfl

/-- The address STOP reports and the state it keeps are past its second byte (R331). -/
theorem stopOp_terminal {s : State} (h : s.params.stopOutcome = .terminal) :
    stopOp s = .error (.stopped (s.cpu.pc + 1)) (s.withCpu { s.cpu with pc := s.cpu.pc + 1 }) := by
  simp only [stopOp, updateCpu_bind, look_bind, withCpu_params, h, raise_run, withCpu_cpu]

theorem stopOp_noOp {s : State} (h : s.params.stopOutcome = .noOp) :
    stopOp s = .ok () (s.withCpu { s.cpu with pc := s.cpu.pc + 1 }) := by
  simp only [stopOp, updateCpu_bind, look_bind, withCpu_params, h, pure_run]

theorem illegalOp_fault {s : State} (op : Byte) (h : s.params.illegalOutcome = .fault) :
    illegalOp op s = .error (.illegalOpcode op s.cpu.opAddr) s := by
  simp only [illegalOp, look_bind, h, raise_run]

theorem illegalOp_noOp {s : State} (op : Byte) (h : s.params.illegalOutcome = .noOp) : illegalOp op s = .ok () s := by
  simp only [illegalOp, look_bind, h, pure_run]

end Sys2Proof.Machine

open Sys2Proof Sys2Proof.Machine in
/-- Settles O43: NOP's operation is empty, and each other one is one update of the CPU. -/
theorem modeFlagInstructions : Obligations.ModeFlagInstructions := by
  unfold Obligations.ModeFlagInstructions
  exact fun s => ⟨exec_of_form rfl (pure_run () s), exec_of_form rfl (haltOp_run s), exec_of_form rfl (diOp_run s),
    exec_of_form rfl (eiOp_run s), exec_of_form rfl (prefixOp_run s)⟩

open Sys2Proof Sys2Proof.Machine in
/-- Settles O44: the answers by the value of each parameter; which opcodes are unused is `form_illegal`. -/
theorem stopAndUnusedOpcodes : Obligations.StopAndUnusedOpcodes := by
  unfold Obligations.StopAndUnusedOpcodes
  intro i op s t
  exact ⟨fun h => exec_error_of_form (i := .stop) rfl (stopOp_terminal h),
    fun h => exec_of_form (i := .stop) rfl (stopOp_noOp h),
    fun hi => ⟨form_illegal hi, fun h => exec_error_of_form hi (illegalOp_fault op h),
      fun h => exec_of_form hi (illegalOp_noOp op h)⟩⟩

end

section
/-! The devices' invariant (R35, R38, R40 to R42, R48, R353, R354 a, R426, R480, R486): every primitive of the machine
keeps it, so every instruction and every phase of a step does. -/

namespace Sys2Proof.Machine

/-! ### The timer -/

theorem Timer.Inv.detectEdge {t : Timer} (h : t.Inv) : t.detectEdge.Inv := by
  unfold Timer.detectEdge Timer.incTima
  simp only []
  split
  · split
    · exact ⟨nofun, fun hp => absurd rfl hp, Nat.zero_le 4⟩
    · exact { h with }
  · exact { h with }

theorem Timer.Inv.pendingTick {t : Timer} (h : t.Inv) : t.pendingTick.1.Inv := by
  have hcount := h.pendingCount
  unfold Timer.pendingTick
  split
  · next hp =>
    simp only []
    split
    · exact ⟨h.notAborted, fun hn => absurd hp hn, by simp only []; omega⟩
    · split
      · exact ⟨nofun, fun _ => rfl, Nat.zero_le 4⟩
      · exact ⟨h.notAborted, fun hn => absurd hp hn, by simp only []; omega⟩
  · exact h

theorem Timer.Inv.tick {t : Timer} (h : t.Inv) : t.tick.1.Inv :=
  have counted : ({ t.pendingTick.1 with div := t.pendingTick.1.div + 1 } : Timer).Inv := { h.pendingTick with }
  counted.detectEdge

theorem Timer.Inv.writeTima {t : Timer} (h : t.Inv) (v : Byte) : (t.writeTima v).Inv := by
  unfold Timer.writeTima
  split
  · exact ⟨nofun, fun _ => rfl, Nat.zero_le 4⟩
  · exact { h with }

theorem Timer.Inv.writeTac {t : Timer} (h : t.Inv) (v : Byte) : (t.writeTac v).Inv :=
  have stored : ({ t with tac := v.extractLsb' 0 3 } : Timer).Inv := { h with }
  stored.detectEdge

/-! ### The cartridge -/

theorem Cart.Inv.writeRom {c : Cart} (h : c.Inv) (a : Addr) (v : Byte) : (c.writeRom a v).Inv := by
  unfold Cart.writeRom
  split
  · exact h
  · split
    · exact { h with }
    · split
      · refine { h with bank1 := ?_ }
        simp only []
        split
        · decide
        · assumption
      · split <;> exact { h with }

theorem Cart.Inv.writeRam {c : Cart} (h : c.Inv) (a : Addr) (v : Byte) : (c.writeRam a v).Inv := by
  unfold Cart.writeRam
  split
  · next hu =>
    have hsize : 0 < c.ramSize := by
      simp only [Cart.ramUsable, Bool.and_eq_true, decide_eq_true_eq] at hu
      omega
    refine { h with ram := Memory.wf_write _ _ h.ram, ramWithin := fun x hx => ?_ }
    rcases Memory.mem_write hx with rfl | hx
    · exact Nat.mod_lt _ hsize
    · exact h.ramWithin x hx
  · exact h

/-! ### The DMA machine -/

theorem Dma.Inv.trigger (v : Byte) : (Dma.trigger v).Inv := ⟨dma_trigger_ok v, Nat.le_refl 4⟩

/-- A tick of the DMA machine with its cursors in step: what it does where no transfer reads RAM that is not there, or
the fault of that read, which leaves the state as it was. -/
theorem dmaTick_answers (s : State) (hok : s.dma.ok = true) :
    (s.dma.active = false ∧ dmaTick s = .ok () s) ∨
    (s.dma.active = true ∧ 0 < s.dma.wait ∧
      dmaTick s = .ok () { s with dma := { s.dma with wait := s.dma.wait - 1 } }) ∨
    (s.dma.active = true ∧ s.dma.wait = 0 ∧ 0xFE9F < s.dma.dst.toNat ∧
      dmaTick s = .ok () { s with dma := { s.dma with active := false } }) ∨
    (s.dma.active = true ∧ s.dma.wait = 0 ∧ s.dma.dst.toNat ≤ 0xFE9F ∧ region s.dma.dst = .oam ∧
      dmaTick s = .ok () { (s.loaded s.dma.src).stored s.dma.dst (s.peek s.dma.src) with
        dma := s.dma.advance }) ∨
    (s.cart.ramMissing = true ∧ dmaTick s = .error (.configError .noRam) s) := by
  by_cases hs : s.chargeSafe
  · rcases dmaTick_cases s hs with h | h | h | h
    exacts [.inl h, .inr (.inl h), .inr (.inr (.inl h)), .inr (.inr (.inr (.inl h)))]
  · obtain ⟨hm, ha, hsrc⟩ : s.cart.ramMissing = true ∧ s.dma.active = true ∧ region s.dma.src = .extRam := by
      simpa [State.chargeSafe, hok] using hs
    right
    by_cases hwait : 0 < s.dma.wait
    · exact .inl ⟨ha, hwait, by simp [dmaTick, ha, hwait]⟩
    right
    have hwait0 : s.dma.wait = 0 := by omega
    by_cases hdone : 0xFE9F < s.dma.dst.toNat
    · exact .inl ⟨ha, hwait0, hdone, by simp [dmaTick, ha, hwait, hdone]⟩
    · refine .inr (.inr ⟨hm, ?_⟩)
      simp only [dmaTick, ha, hwait, hdone, if_false, Bool.true_eq_false, dmaCopy, look_bind,
        bind_of_error (busRead_error s s.dma.src hm hsrc)]

/-! ### The state -/

namespace State.DevicesInv

variable {s : State}

/-- It speaks of the arrays, the timer, the display controller, the DMA machine and the cartridge only. -/
theorem of_eq {t : State} (h : s.DevicesInv) (hm : t.mem = s.mem) (ht : t.timer = s.timer) (hd : t.display = s.display)
    (hdma : t.dma = s.dma) (hc : t.cart = s.cart) : t.DevicesInv :=
  ⟨hm ▸ h.mem, ht ▸ h.timer, hd ▸ h.display, hdma ▸ h.dma, hc ▸ h.cart⟩

theorem loaded (h : s.DevicesInv) (a : Addr) : (s.loaded a).DevicesInv :=
  h.of_eq (by simp) (by simp) (by simp) (by simp) (by simp)

theorem ioWrite (h : s.DevicesInv) (r : IoReg) (v : Byte) : (s.ioWrite r v).DevicesInv := by
  have htimer := h.timer
  have hdisplay := h.display
  cases r with
  | joyp | ifReg | audioStub => exact { h with }
  | ly => exact h
  | divLow | divHigh | tma => exact { h with timer := { htimer with } }
  | tima => exact { h with timer := htimer.writeTima v }
  | tac => exact { h with timer := htimer.writeTac v }
  | dma => exact { h with dma := Dma.Inv.trigger v }
  | lcdc | stat | scy | scx | lyc | bgp | obp0 | obp1 | wy | wx => exact { h with display := { hdisplay with } }

theorem stored (h : s.DevicesInv) (a : Addr) (v : Byte) : (s.stored a v).DevicesInv := by
  rcases stored_cases s a v with e | ⟨-, e⟩ | ⟨-, e⟩ | ⟨ha, e⟩ | ⟨-, e⟩ | ⟨-, r, -, e⟩ <;> rw [e]
  · exact h
  · exact { h with cart := h.cart.writeRom a v }
  · exact { h with cart := h.cart.writeRam a v }
  · exact { h with mem := h.mem.write v ha }
  · exact { h with }
  · exact h.ioWrite r v

theorem timerTick (h : s.DevicesInv) : s.timerTick.DevicesInv := { h with timer := h.timer.tick }

theorem displayTick (h : s.DevicesInv) : s.displayTick.DevicesInv :=
  { h with display := Display.tick_inv s.mem s.display h.display }

/-- What the DMA machine's tick leaves, whether it completes or raises. -/
theorem dmaTick (h : s.DevicesInv) : (s.after dmaTick).DevicesInv := by
  have hwait := h.dma.wait
  rcases dmaTick_answers s h.dma.cursors with ⟨-, e⟩ | ⟨ha, -, e⟩ | ⟨-, -, -, e⟩ | ⟨ha, -, hd, -, e⟩ | ⟨-, e⟩ <;>
    simp only [State.after, e]
  · exact h
  · exact { h with dma := ⟨by simpa [Dma.ok, ha] using h.dma.cursors, by simp only []; omega⟩ }
  · exact { h with dma := ⟨rfl, hwait⟩ }
  · have copied := (h.loaded s.dma.src).stored s.dma.dst (s.peek s.dma.src)
    obtain ⟨-, hok, -⟩ := Dma.advance_ok h.dma.cursors ha hd
    exact { copied with dma := ⟨hok, (by decide : 3 ≤ 4)⟩ }
  · exact h

end State.DevicesInv

/-- The relation of keeping the devices' invariant. -/
def State.KeepsDevices (s t : State) : Prop := s.DevicesInv → t.DevicesInv

/-- An operation keeps a relation of states if the state it leaves, however it ends, is so related. -/
theorem Op.Sat.of_after {α : Type} {R : State → State → Prop} {op : Op α} (h : ∀ s, R s (s.after op)) :
    Op.Sat R (fun _ _ => True) op := fun s =>
  ⟨fun a t e => after_of_ok e ▸ h s, fun r t e => ⟨by simpa only [State.after, e] using h s, trivial⟩⟩

theorem keepsDevices_primitive : Primitive State.KeepsDevices fun _ _ => True :=
  have trans : ∀ s t u : State, s.KeepsDevices t → t.KeepsDevices u → s.KeepsDevices u :=
    fun _ _ _ h h' hs => h' (h hs)
  { refl := fun _ h => h
    trans := trans
    cpu := fun _ _ h => { h with }
    tick := tick_sat trans (fun _ h => h.timerTick) (.of_after fun _ h => h.dmaTick) fun _ h => h.displayTick
    read := fun a => busRead_sat (fun _ h => h) a (fun _ h => h.loaded a) fun _ _ => trivial
    write := fun a v => busWrite_sat (fun _ h => h) a v (fun _ h => h.stored a v) fun _ _ => trivial
    stop := fun _ _ => trivial
    illegal := fun _ _ _ _ => trivial }

theorem takeVector_keepsDevices (s : State) (ieSnap : BitVec 5) : s.KeepsDevices (s.takeVector ieSnap) := by
  unfold State.takeVector
  split <;> exact fun h => { h with }

theorem hostTurn_keepsDevices (s : State) : s.KeepsDevices s.hostTurn := by
  unfold State.hostTurn
  split
  · exact fun h => h
  · exact fun h => { h with }
  · exact fun h => { h with }

/-- A step that goes on keeps the devices' invariant. -/
theorem step_keepsDevices {s t : State} (e : step s = .next t) (h : s.DevicesInv) : t.DevicesInv :=
  keepsDevices_primitive.step takeVector_keepsDevices hostTurn_keepsDevices e h

end Sys2Proof.Machine
end

section
/-! The CPU's invariant (R27, R311, R318): an instruction starts from a running CPU, with no mode flag left over from
the phases before it, and every operation but HALT and 0xCB leaves it running. -/

namespace Sys2Proof.Machine

/-- A running CPU: F's low bits clear, neither halted nor prefixed (R27, R311); the halt bug is armed if `bug` says so,
which the fetch of an opcode ends (R318). -/
structure Cpu.Running (bug : Bool) (c : Cpu) : Prop where
  lowFlags : c.f &&& 0x0F = 0
  haltBug : c.haltBug = bug
  halted : c.halted = false
  prefixedPending : c.prefixedPending = false

theorem Cpu.Running.inv {c : Cpu} (h : c.Running false) : c.Inv :=
  ⟨h.lowFlags, h.haltBug, fun ⟨hh, _⟩ => by rw [h.halted] at hh; cases hh⟩

/-! ### Updates of the CPU -/

namespace Cpu.Running

variable {bug : Bool} {c : Cpu}

theorem setReg8 (h : c.Running bug) (r : Reg8) (v : Byte) : (c.setReg8 r v).Running bug := by
  cases r <;> exact { h with }
theorem setFlags (h : c.Running bug) (x : Flags) : (c.setFlags x).Running bug :=
  { h with lowFlags := Flags.toByte_low x }
theorem setPair (h : c.Running bug) (p : Pair) (v : Addr) : (c.setPair p v).Running bug := by
  cases p <;> exact { h with }

theorem setStackPair (h : c.Running bug) (p : StackPair) (v : Addr) : (c.setStackPair p v).Running bug := by
  cases p with
  | bc => exact h.setPair .bc v
  | de => exact h.setPair .de v
  | hl => exact h.setPair .hl v
  | af =>
    have masked : ∀ f : Byte, f &&& 0xF0 &&& 0x0F = 0 := by decide
    exact { h with lowFlags := masked _ }

theorem alu (h : c.Running bug) (op : AluOp) (v : Byte) : (c.alu op v).Running bug :=
  have stored : ({ c with a := (alu8 op c.a v c.flags).1 } : Cpu).Running bug := { h with }
  stored.setFlags _

theorem stepHl (h : c.Running bug) (k : HlStep) : (c.stepHl k).Running bug := by cases k <;> exact { h with }

end Cpu.Running

/-! ### Operations -/

/-- An operation that, where it completes, leaves a running CPU running. -/
def Op.KeepsRunning {α : Type} (op : Op α) : Prop :=
  ∀ bug s a t, op s = .ok a t → s.cpu.Running bug → t.cpu.Running bug

theorem Op.CpuBlind.keepsRunning {α : Type} {op : Op α} (h : Op.CpuBlind op) : Op.KeepsRunning op :=
  fun _ _ _ _ e hr => h.cpu_eq e ▸ hr

namespace Op.KeepsRunning

theorem bind {α β : Type} {x : Op α} {f : α → Op β} (hx : Op.KeepsRunning x) (hf : ∀ a, Op.KeepsRunning (f a)) :
    Op.KeepsRunning (x >>= f) := by
  intro bug s b u e hr
  obtain ⟨a, t, ex, ef⟩ := bind_ok_iff.mp e
  exact hf a bug t b u ef (hx bug s a t ex hr)

/-- Looking at the state first changes nothing. -/
theorem look_bind {α β : Type} {f : State → α} {g : α → Op β} (h : ∀ a, Op.KeepsRunning (g a)) :
    Op.KeepsRunning (Machine.look f >>= g) := fun _ _ b u e => h _ _ _ b u e

theorem pure {α : Type} (a : α) : Op.KeepsRunning (Pure.pure a : Op α) := fun _ _ _ _ e hr => by cases e; exact hr

theorem updateCpu {f : Cpu → Cpu} (h : ∀ {bug : Bool} {c : Cpu}, c.Running bug → (f c).Running bug) :
    Op.KeepsRunning (updateCpu f) :=
  fun _ _ _ _ e hr => by cases e; exact h hr

/-- An operation that always completes, with another CPU. -/
theorem of_withCpu {op : Op Unit} {f : State → Cpu} (e : ∀ s, op s = .ok () (s.withCpu (f s)))
    (h : ∀ {bug : Bool} {s : State}, s.cpu.Running bug → (f s).Running bug) : Op.KeepsRunning op := by
  intro bug s _ t ht hr
  rw [e] at ht
  cases ht
  exact h hr

theorem internal : Op.KeepsRunning internal := (blind_ticks 4).keepsRunning
theorem memRead (a : Addr) : Op.KeepsRunning (memRead a) := ((blind_ticks 4).bind fun _ => blind_busRead a).keepsRunning
theorem memWrite (a : Addr) (v : Byte) : Op.KeepsRunning (memWrite a v) := (blind_memWrite a v).keepsRunning

theorem loadA (a : Addr) : Op.KeepsRunning (loadA a) := (memRead a).bind fun _ => updateCpu fun h => by exact { h with }
theorem storeA (a : Addr) : Op.KeepsRunning (storeA a) := look_bind fun _ => memWrite a _

theorem push8 (v : Byte) : Op.KeepsRunning (push8 v) :=
  (updateCpu fun h => by exact { h with }).bind fun _ => look_bind fun _ => memWrite _ _
theorem push16 (v : BitVec 16) : Op.KeepsRunning (push16 v) := (push8 _).bind fun _ => push8 _

theorem pop8 : Op.KeepsRunning pop8 :=
  look_bind fun _ => (memRead _).bind fun _ => (updateCpu fun h => by exact { h with }).bind fun _ => pure _
theorem pop16 : Op.KeepsRunning pop16 := pop8.bind fun _ => pop8.bind fun _ => pure _

theorem jumpTo (target : Addr) : Op.KeepsRunning (jumpTo target) := updateCpu fun h => by exact { h with }
theorem returnOp : Op.KeepsRunning returnOp := pop16.bind fun _ => internal.bind fun _ => jumpTo _
theorem jpOp (nn : BitVec 16) : Op.KeepsRunning (jpOp nn) := internal.bind fun _ => jumpTo nn
theorem jrOp (e : Byte) : Op.KeepsRunning (jrOp e) := internal.bind fun _ => updateCpu fun h => by exact { h with }
theorem callOp (target : Addr) : Op.KeepsRunning (callOp target) :=
  internal.bind fun _ => look_bind fun _ => (push16 _).bind fun _ => jumpTo target

theorem whenCond (cc : Cond) {op : Op Unit} (h : Op.KeepsRunning op) : Op.KeepsRunning (whenCond cc op) :=
  look_bind fun taken => by
    cases taken with
    | true => exact h
    | false => exact pure ()

/-- Memory at HL read, and the CPU changed by it. -/
theorem readHl {f : Byte → Cpu → Cpu} (h : ∀ v {bug : Bool} {c : Cpu}, c.Running bug → (f v c).Running bug) :
    Op.KeepsRunning (Machine.look (fun s => s.cpu.hl) >>= fun hl => Machine.memRead hl >>= fun v =>
      Machine.updateCpu (f v)) :=
  look_bind fun _ => (memRead _).bind fun v => updateCpu (h v)

/-- Memory at HL read, changed and written back, with the flags of the change. -/
theorem rmw (f : Byte → Flags → Byte) (g : Byte → Flags → Flags) :
    Op.KeepsRunning (Machine.look (fun s => s.cpu.hl) >>= fun hl => Machine.memRead hl >>= fun v =>
      Machine.look (fun s => s.cpu.flags) >>= fun x => Machine.memWrite hl (f v x) >>= fun _ =>
        Machine.updateCpu fun c => c.setFlags (g v x)) :=
  look_bind fun _ => (memRead _).bind fun _ => look_bind fun _ => (memWrite _ _).bind fun _ =>
    updateCpu fun h => by exact h.setFlags _

/-- Memory at HL read, changed and written back, no flag changed. -/
theorem bitRmw (f : Byte → Byte) :
    Op.KeepsRunning (Machine.look (fun s => s.cpu.hl) >>= fun hl => Machine.memRead hl >>= fun v =>
      Machine.memWrite hl (f v)) :=
  look_bind fun _ => (memRead _).bind fun _ => memWrite _ _

theorem stopOp : Op.KeepsRunning stopOp :=
  (updateCpu fun h => by exact { h with }).bind fun _ => look_bind fun u => by
    cases u.params.stopOutcome with
    | terminal => exact fun _ _ _ _ e => by cases e
    | noOp => exact pure ()

theorem illegalOp (op : Byte) : Op.KeepsRunning (illegalOp op) :=
  look_bind fun u => by
    cases u.params.illegalOutcome with
    | fault => exact fun _ _ _ _ e => by cases e
    | noOp => exact pure ()

end Op.KeepsRunning

/-- Every instruction but HALT and 0xCB leaves a running CPU running. (`by exact` where the update of the CPU
has to be read off the operation first.) -/
theorem formOp_keepsRunning {f : Form} (hhalt : f ≠ .halt) (hprefix : f ≠ .prefixCb) : Op.KeepsRunning (formOp f) := by
  cases f with
  | halt => exact absurd rfl hhalt
  | prefixCb => exact absurd rfl hprefix
  | nop => exact .pure ()
  | stop => exact .stopOp
  | illegal op => exact .illegalOp op
  | di | ei | jpHl =>
    refine .of_withCpu (fun _ => rfl) fun h => ?_
    exact { h with }
  | ldRegReg | ldRegImm =>
    refine .of_withCpu (fun _ => rfl) fun h => ?_
    exact h.setReg8 _ _
  | ldRegMem => exact .readHl fun _ _ _ h => by exact h.setReg8 _ _
  | ldMemReg | ldMemImm => exact .look_bind fun _ => .memWrite _ _
  | loadA x =>
    cases x with
    | pair | highC => exact .look_bind fun _ => .loadA _
    | abs | high => exact .loadA _
  | storeA x =>
    cases x with
    | pair | highC => exact .look_bind fun _ => .storeA _
    | abs | high => exact .storeA _
  | loadAStep k =>
    exact .look_bind fun _ => (Op.KeepsRunning.loadA _).bind fun _ => .updateCpu fun h => by exact h.stepHl k
  | storeAStep k =>
    exact .look_bind fun _ => (Op.KeepsRunning.storeA _).bind fun _ => .updateCpu fun h => by exact h.stepHl k
  | ldPairImm =>
    refine .of_withCpu (fun _ => rfl) fun h => ?_
    exact h.setPair _ _
  | ldMemSp => exact .look_bind fun _ => (Op.KeepsRunning.memWrite _ _).bind fun _ => .memWrite _ _
  | ldSpHl => exact Op.KeepsRunning.internal.bind fun _ => .updateCpu fun h => by exact { h with }
  | ldHlSp | addHl =>
    exact Op.KeepsRunning.internal.bind fun _ => .updateCpu fun h => by exact (h.setPair .hl _).setFlags _
  | push => exact Op.KeepsRunning.internal.bind fun _ => .look_bind fun _ => .push16 _
  | pop => exact Op.KeepsRunning.pop16.bind fun _ => .updateCpu fun h => by exact h.setStackPair _ _
  | alu _ x =>
    cases x with
    | reg | imm =>
      refine .of_withCpu (fun _ => rfl) fun h => ?_
      exact h.alu _ _
    | memHl => exact .readHl fun _ _ _ h => by exact h.alu _ _
  | inc8 x =>
    cases x with
    | reg =>
      refine .of_withCpu (fun _ => rfl) fun h => ?_
      exact (h.setReg8 _ _).setFlags _
    | memHl => exact .rmw (fun v x => (inc8 v x).1) _
  | dec8 x =>
    cases x with
    | reg =>
      refine .of_withCpu (fun _ => rfl) fun h => ?_
      exact (h.setReg8 _ _).setFlags _
    | memHl => exact .rmw (fun v x => (dec8 v x).1) _
  | rot op x =>
    cases x with
    | reg =>
      refine .of_withCpu (fun _ => rfl) fun h => ?_
      exact (h.setReg8 _ _).setFlags _
    | memHl => exact .rmw (fun v x => (rotFlags8 op v x).1) _
  | bit _ x =>
    cases x with
    | reg =>
      refine .of_withCpu (fun _ => rfl) fun h => ?_
      exact h.setFlags _
    | memHl => exact .readHl fun _ _ _ h => by exact h.setFlags _
  | res _ x | set _ x =>
    cases x with
    | reg =>
      refine .of_withCpu (fun _ => rfl) fun h => ?_
      exact h.setReg8 _ _
    | memHl => exact .bitRmw _
  | daa | cpl | accRot =>
    refine .of_withCpu (fun _ => rfl) fun h => ?_
    exact (h.setReg8 .a _).setFlags _
  | scf | ccf =>
    refine .of_withCpu (fun _ => rfl) fun h => ?_
    exact h.setFlags _
  | incPair | decPair => exact Op.KeepsRunning.internal.bind fun _ => .updateCpu fun h => by exact h.setPair _ _
  | addSp =>
    exact Op.KeepsRunning.internal.bind fun _ => Op.KeepsRunning.internal.bind fun _ =>
      .updateCpu fun h => by exact (h.setPair .sp _).setFlags _
  | jp nn => exact .jpOp nn
  | jr e => exact .jrOp e
  | call => exact .callOp _
  | rst => exact .callOp _
  | ret => exact .returnOp
  | reti => exact Op.KeepsRunning.returnOp.bind fun _ => .updateCpu fun h => by exact { h with }
  | jpCond cc => exact .whenCond cc (.jpOp _)
  | jrCond cc => exact .whenCond cc (.jrOp _)
  | callCond cc => exact .whenCond cc (.callOp _)
  | retCond cc => exact Op.KeepsRunning.internal.bind fun _ => .whenCond cc .returnOp

/-- An instruction that completes leaves a running CPU within its invariant. -/
theorem exec_cpuInv {i : Instr} {s t : State} (e : exec i s = .next t) (h : s.cpu.Running false) : t.cpu.Inv := by
  rw [exec_form, answer_next_iff] at e
  by_cases hhalt : i.form = .halt
  · rw [hhalt] at e
    cases e
    exact ⟨h.lowFlags, h.haltBug, fun ⟨_, hp⟩ => nomatch h.prefixedPending.symm.trans hp⟩
  by_cases hprefix : i.form = .prefixCb
  · rw [hprefix] at e
    cases e
    exact ⟨h.lowFlags, h.haltBug, fun ⟨hh, _⟩ => nomatch h.halted.symm.trans hh⟩
  · exact (formOp_keepsRunning hhalt hprefix false s () t e h).inv

/-! ### The phases before an instruction -/

namespace Cpu.Running

variable {bug : Bool} {c : Cpu}

/-- Fetching consumes the halt bug (R318). -/
theorem afterFetch (h : c.Running bug) : c.afterFetch.Running false := by
  unfold Cpu.afterFetch
  split
  · exact { h with haltBug := rfl }
  · next hb => exact { h with haltBug := by simpa using hb }

theorem applyImeSched (h : c.Running bug) : c.applyImeSched.Running bug := by
  unfold Cpu.applyImeSched
  split
  · exact { h with }
  · exact h

/-- The check of the halted state leaves a CPU that is not prefixed running, the halt bug armed or not (R312, R313). -/
theorem wake (h : c.Inv) (hp : c.prefixedPending = false) : ∃ bug, c.wake.Running bug := by
  unfold Cpu.wake
  split
  · exact ⟨_, h.lowFlags, rfl, rfl, hp⟩
  · next hh => exact ⟨_, h.lowFlags, rfl, by simpa using hh, hp⟩

end Cpu.Running

theorem fetch8_running {s t : State} {v : Byte} {bug : Bool} (e : fetch8 s = .ok v t) (h : s.cpu.Running bug) :
    t.cpu.Running false := by
  obtain ⟨_, u, hread, hpc⟩ := bind_ok_iff.mp (show (memRead s.cpu.pc >>= _) s = .ok v t from e)
  cases hpc
  exact (Op.KeepsRunning.memRead _ bug s _ u hread h).afterFetch

theorem fetchOpcode_running {s t : State} {v : Byte} {bug : Bool} (e : fetchOpcode s = .ok v t)
    (h : s.cpu.Running bug) : t.cpu.Running false :=
  have addressKept : (s.withCpu { s.cpu with opAddr := s.cpu.pc }).cpu.Running bug := { h with }
  fetch8_running e addressKept

theorem fetchImmediates_running {s t : State} {x : Entry} {i : Instr} (e : fetchImmediates x s = .ok i t)
    (h : s.cpu.Running false) : t.cpu.Running false := by
  cases x with
  | op | skip1 => cases e; exact h
  | imm8 f =>
    obtain ⟨_, u, hfetch, hi⟩ := bind_ok_iff.mp e
    cases hi
    exact fetch8_running hfetch h
  | imm16 f =>
    obtain ⟨_, u, hfetch, hi⟩ := bind_ok_iff.mp e
    cases hi
    obtain ⟨_, w, hlo, hrest⟩ := bind_ok_iff.mp hfetch
    obtain ⟨_, x, hhi, hnn⟩ := bind_ok_iff.mp hrest
    cases hnn
    exact fetch8_running hhi (fetch8_running hlo h)

namespace Op.KeepsRunning

theorem takeVector (ieSnap : BitVec 5) : Op.KeepsRunning (update fun s => s.takeVector ieSnap) := by
  intro bug s _ t e hr
  cases e
  show (s.takeVector ieSnap).cpu.Running bug
  unfold State.takeVector
  split <;> exact { hr with }

theorem dispatch : Op.KeepsRunning dispatch :=
  (updateCpu fun h => by exact { h with }).bind fun _ => (blind_ticks 8).keepsRunning.bind fun _ => look_bind fun _ =>
    (push8 _).bind fun _ => look_bind fun _ => (push8 _).bind fun _ => (takeVector _).bind fun _ => internal

theorem dispatchCheck : Op.KeepsRunning dispatchCheck := by
  intro bug s _ t e hr
  unfold Machine.dispatchCheck at e
  split at e
  · exact dispatch bug s _ t e hr
  · cases e; exact hr

end Op.KeepsRunning

theorem prefixedPhase_running {s t : State} {i : Instr} (e : prefixedPhase s = .ok i t) (h : s.cpu.Inv)
    (hp : s.cpu.prefixedPending = true) : t.cpu.Running false := by
  obtain ⟨_, u, hfetch, hi⟩ := bind_ok_iff.mp
    (show (fetchOpcode >>= _) (s.withCpu { s.cpu with prefixedPending := false }) = .ok i t from e)
  cases hi
  have hhalted : s.cpu.halted = false := by simpa [hp] using h.oneMode
  have unprefixed : Cpu.Running false { s.cpu with prefixedPending := false } :=
    ⟨h.lowFlags, h.haltBugUsed, hhalted, rfl⟩
  exact fetchOpcode_running hfetch unprefixed

theorem runningPhase_running {s t : State} {i : Instr} (e : runningPhase s = .ok i t) (h : s.cpu.Inv)
    (hp : s.cpu.prefixedPending = false) : t.cpu.Running false := by
  obtain ⟨bug, hwake⟩ := Cpu.Running.wake h hp
  obtain ⟨_, u, hcheck, hrest⟩ := bind_ok_iff.mp (show (dispatchCheck >>= _) (s.withCpu s.cpu.wake) = .ok i t from e)
  obtain ⟨_, w, hop, himm⟩ := bind_ok_iff.mp
    (show (fetchOpcode >>= _) (u.withCpu u.cpu.applyImeSched) = .ok i t from hrest)
  have hu := (Op.KeepsRunning.dispatchCheck bug _ _ u hcheck hwake).applyImeSched
  exact fetchImmediates_running himm (fetchOpcode_running hop hu)

/-- An operation whose value is wrapped leaves the state of the operation. -/
theorem map_ok_iff {α β : Type} {x : Op α} {g : α → β} {s t : State} {b : β} :
    (g <$> x) s = .ok b t ↔ ∃ a, x s = .ok a t ∧ g a = b := by
  constructor
  · intro e
    obtain ⟨a, u, hx, hb⟩ := bind_ok_iff.mp (show (x >>= fun a => pure (g a)) s = .ok b t from e)
    cases hb
    exact ⟨a, hx, rfl⟩
  · rintro ⟨a, hx, rfl⟩
    exact bind_ok_iff.mpr ⟨a, t, hx, rfl⟩

/-- The phases of a step leave the CPU as it is where they idle, and running where they fetched an instruction. -/
theorem cpuStepPhases_cpu {s t : State} {x : Option Instr} (e : cpuStepPhases s = .ok x t) (h : s.cpu.Inv) :
    (x = none → t.cpu.Inv) ∧ (∀ i, x = some i → t.cpu.Running false) := by
  unfold cpuStepPhases at e
  split at e
  · next hp =>
    obtain ⟨i, hphase, rfl⟩ := map_ok_iff.mp e
    exact ⟨nofun, fun _ _ => prefixedPhase_running hphase h hp⟩
  · next hp =>
    split at e
    · obtain ⟨_, hcharge, rfl⟩ := map_ok_iff.mp e
      exact ⟨fun _ => (blind_ticks 4).cpu_eq hcharge ▸ h, nofun⟩
    · obtain ⟨i, hphase, rfl⟩ := map_ok_iff.mp e
      exact ⟨nofun, fun _ _ => runningPhase_running hphase h (by simpa using hp)⟩

@[simp] theorem hostTurn_cpu (s : State) : s.hostTurn.cpu = s.cpu := by
  unfold State.hostTurn
  split <;> rfl

theorem step_cpuInv {s t : State} (e : step s = .next t) (h : s.cpu.Inv) : t.cpu.Inv := by
  unfold step beginStep at e
  rw [← hostTurn_cpu] at h
  split at e
  · next i u hphases => exact exec_cpuInv e ((cpuStepPhases_cpu hphases h).2 i rfl)
  · next u hphases =>
    cases e
    exact (cpuStepPhases_cpu hphases h).1 rfl
  · cases e

end Sys2Proof.Machine

open Sys2Proof.Machine in
/-- Settles O14: the devices' part is kept by every primitive of the machine, so by the whole step; the CPU's part is
kept because the phases hand a running CPU to the instruction, which leaves it running, halted or prefixed. -/
theorem stepKeepsInvariant : Obligations.StepKeepsInvariant := by
  unfold Obligations.StepKeepsInvariant
  exact fun s t h e => ⟨step_cpuInv e h.cpu, step_keepsDevices e h.devices⟩

end

section
/-! The frame of the display controller: what a tick of each mode does to the place in the frame, at the ends of lines
and frames and between them, and the frame kept by the whole machine (R370, R420, R421, R425, R426, R450). -/

namespace Sys2Proof.Machine

namespace Display

variable {d : Display}

/-! ### A tick of an enabled controller (R371) -/

theorem tick_enabled (m : Memory) (h : d.lcdc.getLsbD 7 = true) :
    d.tick m = ((d.modeTick m).1.statUpdate.1, (d.modeTick m).2.1,
      (d.modeTick m).2.2 ||| (d.modeTick m).1.statUpdate.2) := by
  unfold tick
  rw [if_pos h]

theorem tick_disabled (m : Memory) (h : d.lcdc.getLsbD 7 = false) : d.tick m = (d.forceOff, none, 0) := by
  unfold tick
  rw [if_neg (by rw [h]; nofun)]

/-- The display-status update remembers the condition and changes nothing else (R450). -/
theorem statUpdate_fst (d : Display) : d.statUpdate.1 = { d with statLine := d.statCondition } := rfl

theorem statUpdate_snd (d : Display) :
    d.statUpdate.2 = if d.statCondition && !d.statLine then 0b00010 else 0 := rfl

/-- An enabled tick keeps the invariant, and moves the place in the frame one on. -/
theorem tick_frame (m : Memory) (hi : d.Inv) (h : d.lcdc.getLsbD 7 = true) :
    456 * (d.tick m).1.ly.toNat + (d.tick m).1.dot = (456 * d.ly.toNat + d.dot + 1) % 70224 := by
  rw [tick_enabled m h]
  exact (modeTick_tick m d hi).place

/-- The vertical-blank request is the mode's, since the display-status request is another bit. -/
theorem tick_vblankRequest (m : Memory) (hi : d.Inv) (h : d.lcdc.getLsbD 7 = true) :
    (d.tick m).2.2.getLsbD 0 = true ↔ 456 * (d.tick m).1.ly.toNat + (d.tick m).1.dot = 456 * 144 := by
  rw [tick_enabled m h]
  obtain ⟨-, -, hreq, hvb⟩ := modeTick_tick m d hi
  refine Iff.trans ?_ hvb
  have hstat : (d.modeTick m).1.statUpdate.2.getLsbD 0 = false := by
    rw [statUpdate_snd]
    split <;> rfl
  simp only [BitVec.getLsbD_or, hstat, Bool.or_false]
  rcases hreq with hq | hq <;> rw [hq] <;> decide

/-! ### Ends of lines and frames (R420, R421, R425) -/

theorem mode0Tick_idle (h : d.dot + 1 ≠ 456) : d.mode0Tick = ({ d with dot := d.dot + 1 }, 0) := by
  unfold mode0Tick
  rw [if_neg h]

theorem mode0Tick_end (h : d.dot + 1 = 456) : d.mode0Tick = ({ d with dot := d.dot + 1 } : Display).endLine := by
  unfold mode0Tick
  rw [if_pos h]

/-- The state the end of a scanline leaves: the per-scanline state reset, the window line counted, the next scanline. -/
theorem endLine_fst (d : Display) : d.endLine.1 =
    { ({ d with
        dot := 0, windowLine := if d.winEngaged then d.windowLine + 1 else d.windowLine } : Display).lineReset with
      ly := d.ly + 1, mode := if d.ly = 143 then .vblank else .scan } := by
  have next : d.ly + 1 = 144 ↔ d.ly = 143 := BitVec.add_left_inj (z := 1) (y := 143)
  have hly : ({ d with dot := 0, windowLine := if d.winEngaged then d.windowLine + 1 else d.windowLine } :
    Display).lineReset.ly = d.ly := rfl
  unfold endLine
  simp only [hly, next]
  by_cases h : d.ly = 143
  · simp only [h, if_true]
  · simp only [h, if_false]

theorem mode1Tick_idle (h : d.dot + 1 ≠ 456) : d.mode1Tick = { d with dot := d.dot + 1 } := by
  unfold mode1Tick
  rw [if_neg h]

theorem mode1Tick_endLine (h : d.dot + 1 = 456) (hly : d.ly ≠ 153) :
    d.mode1Tick = { d with dot := 0, ly := d.ly + 1 } := by
  unfold mode1Tick
  rw [if_pos h, if_neg hly]

theorem mode1Tick_endFrame (h : d.dot + 1 = 456) (hly : d.ly = 153) :
    d.mode1Tick = { d with dot := 0, ly := 0, wyMatched := false, windowLine := 0, mode := .scan } := by
  unfold mode1Tick
  rw [if_pos h, if_pos hly]

/-- A tick of a blank that ends neither its scanline nor, in the vertical blank, the frame. -/
theorem modeTick_idleBlank (m : Memory) (hi : d.Inv) (hm : d.mode = .hblank ∨ d.mode = .vblank)
    (h : d.dot < 455 ∨ d.mode = .vblank ∧ d.ly ≠ 153) :
    (d.modeTick m).1.windowLine = d.windowLine ∧ (d.modeTick m).1.wyMatched = d.wyMatched ∧
      (d.modeTick m).1.mode = d.mode := by
  have hdot := hi.dot
  rcases hm with hm | hm <;> simp only [modeTick, hm]
  · have hidle : d.dot + 1 ≠ 456 := by
      rcases h with h | ⟨h, -⟩
      · omega
      · rw [hm] at h; cases h
    rw [mode0Tick_idle hidle]
    exact ⟨rfl, rfl, hm⟩
  · by_cases hend : d.dot + 1 = 456
    · have hly : d.ly ≠ 153 := by
        rcases h with h | ⟨-, h⟩
        · omega
        · exact h
      rw [mode1Tick_endLine hend hly]
      exact ⟨rfl, rfl, hm⟩
    · rw [mode1Tick_idle hend]
      exact ⟨rfl, rfl, hm⟩

/-! ### What the parts of a drawing tick leave to its end (R390, R450) -/

/-- The display-status line and the dot are as they were. -/
def SameLine (d e : Display) : Prop := e.statLine = d.statLine ∧ e.dot = d.dot

theorem arbitrate_sameLine (d : Display) : d.SameLine d.arbitrate.1 := by
  unfold arbitrate enterWindow
  simp only []
  repeat' split
  all_goals exact ⟨rfl, rfl⟩

theorem pushBackground_sameLine {e : Display} (h : d.pushBackground = some e) : d.SameLine e := by
  unfold pushBackground at h
  split at h
  · cases h
  · cases h; exact ⟨rfl, rfl⟩

theorem fetcherAct_sameLine (m : Memory) (d : Display) : d.SameLine (d.fetcherAct m) := by
  unfold fetcherAct
  split
  · exact ⟨rfl, rfl⟩
  · exact ⟨rfl, rfl⟩
  · exact ⟨rfl, rfl⟩
  · split
    · exact ⟨rfl, rfl⟩
    · split
      · next e he =>
        obtain ⟨hline, hdot⟩ := pushBackground_sameLine he
        exact ⟨hline, hdot⟩
      · exact ⟨rfl, rfl⟩

theorem fetcherStep_sameLine (m : Memory) (d : Display) : d.SameLine (d.fetcherStep m) := by
  unfold fetcherStep
  simp only []
  split
  · split
    · exact ⟨rfl, rfl⟩
    · exact fetcherAct_sameLine m _
  · exact fetcherAct_sameLine m d

theorem mixWhen_sameLine (run : Bool) (d : Display) : d.SameLine (d.mixWhen run).1 := by
  unfold mixWhen mixerStep
  repeat' split
  all_goals exact ⟨rfl, rfl⟩

/-- A drawing tick up to its end. -/
theorem drawn_sameLine (m : Memory) (d : Display) :
    d.SameLine ((d.arbitrate.1.fetcherStep m).mixWhen d.arbitrate.2).1 := by
  obtain ⟨harb, harb'⟩ := d.arbitrate_sameLine
  obtain ⟨hfetch, hfetch'⟩ := d.arbitrate.1.fetcherStep_sameLine m
  obtain ⟨hmix, hmix'⟩ := (d.arbitrate.1.fetcherStep m).mixWhen_sameLine d.arbitrate.2
  exact ⟨hmix.trans (hfetch.trans harb), hmix'.trans (hfetch'.trans harb')⟩

/-! ### The display-status line (R450) -/

theorem mode2Tick_statLine (m : Memory) (d : Display) : (d.mode2Tick m).statLine = d.statLine := by
  unfold mode2Tick scanEntry
  simp only []
  repeat' split
  all_goals rfl

theorem endLine_statLine (d : Display) : d.endLine.1.statLine = d.statLine := by
  rw [endLine_fst]
  rfl

theorem drawnDot_statLine (d : Display) : d.drawnDot.1.statLine = d.statLine := by
  unfold drawnDot
  simp only []
  split
  · exact endLine_statLine _
  · split <;> rfl

/-- Only the display-status update changes the line. -/
theorem modeTick_statLine (m : Memory) (d : Display) : (d.modeTick m).1.statLine = d.statLine := by
  unfold modeTick
  split
  · exact mode2Tick_statLine m d
  · unfold mode3Tick
    rw [drawnDot_statLine, (drawn_sameLine m d).1]
  · by_cases h : d.dot + 1 = 456
    · simp only [mode0Tick_end h, endLine_statLine]
    · simp only [mode0Tick_idle h]
  · unfold mode1Tick
    simp only []
    repeat' split
    all_goals rfl

end Display

/-! ### The display controller in a tick of the whole machine -/

theorem stored_display (s : State) {a : Addr} (v : Byte) (h : region a ≠ .io) : (s.stored a v).display = s.display := by
  rcases stored_cases s a v with e | ⟨-, e⟩ | ⟨-, e⟩ | ⟨-, e⟩ | ⟨-, e⟩ | ⟨hr, -⟩
  case inr.inr.inr.inr.inr => exact absurd hr h
  all_goals rw [e]

/-- A transfer writes below the I/O page only, whatever its cursors are, so it never reaches the controller. -/
theorem dmaTick_display {s t : State} {x : Unit} (e : dmaTick s = .ok x t) : t.display = s.display := by
  unfold dmaTick at e
  split at e
  · cases e; rfl
  split at e
  · cases e; rfl
  split at e
  · cases e; rfl
  next hdst =>
    obtain ⟨v, u, hread, hrest⟩ := bind_ok_iff.mp (show (busRead s.dma.src >>= _) s = .ok x t from e)
    obtain ⟨_, w, hwrite, hadvance⟩ := bind_ok_iff.mp hrest
    cases hadvance
    rw [← after_of_ok hread] at hwrite
    have hio : region s.dma.dst ≠ .io := fun h => by have := region_io.mp h; omega
    have hw : (s.loaded s.dma.src).stored s.dma.dst v = w := after_of_ok hwrite
    show w.display = s.display
    rw [← hw, stored_display _ v hio, loaded_display]

/-- A tick of the whole machine is one tick of the controller. -/
theorem tick_display {s t : State} {x : Unit} (e : tick s = .ok x t) : ∃ m, t.display = (s.display.tick m).1 := by
  obtain ⟨_, u, hdma, hdisplay⟩ := bind_ok_iff.mp
    (show (dmaTick >>= fun _ => update State.displayTick) s.timerTick = .ok x t from e)
  cases hdisplay
  have hu : u.display = s.timerTick.display := dmaTick_display hdma
  exact ⟨u.mem, congrArg (fun d => (Display.tick u.mem d).1) hu⟩

/-- The frame over any number of ticks. -/
theorem ticks_frame (n : Nat) : ∀ (s t : State) (x : Unit), s.display.Inv → s.display.lcdc.getLsbD 7 = true →
    ticks n s = .ok x t → t.display.Inv ∧
      456 * t.display.ly.toNat + t.display.dot = (456 * s.display.ly.toNat + s.display.dot + n) % 70224 := by
  induction n with
  | zero =>
    intro s t x hi _ e
    cases e
    have hly := hi.ly
    have hdot := hi.dot
    exact ⟨hi, by omega⟩
  | succ n ih =>
    intro s t x hi hon e
    obtain ⟨_, u, htick, hrest⟩ := bind_ok_iff.mp (show (tick >>= fun _ => ticks n) s = .ok x t from e)
    obtain ⟨m, hu⟩ := tick_display htick
    have hinv := Display.tick_inv m s.display hi
    have hplace := Display.tick_frame m hi hon
    have hlcdc := (Display.tick_registers m s.display).1
    rw [← hu] at hinv hplace hlcdc
    obtain ⟨hinv', hplace'⟩ := ih u t x hinv (by rw [hlcdc, hon]) hrest
    exact ⟨hinv', by omega⟩

end Sys2Proof.Machine

open Sys2Proof.Machine in
/-- Settles O54: by induction on the ticks, of which each is one tick of the controller (`tick_display`). -/
theorem frameOverTicks : Obligations.FrameOverTicks := by
  unfold Obligations.FrameOverTicks
  exact fun n s t hi hon e => ticks_frame n s t () hi hon e

open Sys2Proof.Machine in
/-- Settles O53: the place and the request are those of a tick under the invariant; each end of a line or frame is one
case of the tick of its mode. -/
theorem frameStructure : Obligations.FrameStructure := by
  unfold Obligations.FrameStructure
  intro m d hi hon
  refine ⟨Display.tick_frame m hi hon, Display.tick_vblankRequest m hi hon, (Display.tick_inv m d hi).vblank,
    fun hm hdot => ?endOfLine, fun hm hdot hly => ?endOfFrame, fun hm h => ?idle⟩ <;> rw [Display.tick_enabled m hon]
  case endOfLine =>
    have hend : d.dot + 1 = 456 := by omega
    have e : (d.modeTick m).1 = ({ d with dot := d.dot + 1 } : Display).endLine.1 := by
      simp only [Display.modeTick, hm, Display.mode0Tick_end hend]
    rw [Display.statUpdate_fst, e, Display.endLine_fst]
    exact ⟨rfl, rfl, rfl, rfl, rfl, rfl, rfl, rfl, rfl, rfl, rfl, rfl, rfl, rfl, rfl, rfl, rfl⟩
  case endOfFrame =>
    have hend : d.dot + 1 = 456 := by omega
    have e : (d.modeTick m).1 = { d with dot := 0, ly := 0, wyMatched := false, windowLine := 0, mode := .scan } := by
      simp only [Display.modeTick, hm, Display.mode1Tick_endFrame hend hly]
    rw [Display.statUpdate_fst, e]
    exact ⟨rfl, rfl, rfl, rfl⟩
  case idle => exact Display.modeTick_idleBlank m hi hm h

open Sys2Proof.Machine in
/-- Settles O55: the tick ends with the update of the line, which the tick's mode left as it was. -/
theorem statEdge : Obligations.StatEdge := by
  unfold Obligations.StatEdge
  intro m d hon
  have hline := Display.modeTick_statLine m d
  obtain ⟨-, hen, -, -, hlyc, -⟩ := Display.tick_registers m d
  have hothers := Display.tick_requests m d
  have hvb := Display.modeTick_requests m d
  simp only [Display.tick_enabled m hon, Display.statUpdate_fst] at hen hlyc hothers ⊢
  generalize d.modeTick m = r at *
  have hcomposite : r.1.statCondition = ((d.statEn.getLsbD 3 && decide (r.1.ly = d.lyc)) ||
      (d.statEn.getLsbD 2 && decide (r.1.mode = .scan ∨ r.1.ly = 144)) ||
      (d.statEn.getLsbD 1 && decide (r.1.mode = .vblank)) || (d.statEn.getLsbD 0 && decide (r.1.mode = .hblank))) := by
    simp only [Display.statCondition, hen, hlyc, Bool.decide_or]
  have bit (k : Nat) (hk : (0b11100#5).getLsbD k = true) : (r.2.2 ||| r.1.statUpdate.2).getLsbD k = false := by
    have := congrArg (fun x => BitVec.getLsbD x k) hothers
    simpa [BitVec.getLsbD_and, hk] using this
  rw [← hcomposite]
  refine ⟨rfl, ?_, bit 2 rfl, bit 3 rfl, bit 4 rfl⟩
  have hmode : r.2.2.getLsbD 1 = false := by rcases hvb with h | h <;> rw [h] <;> rfl
  rw [BitVec.getLsbD_or, hmode, Bool.false_or, Display.statUpdate_snd, hline]
  cases r.1.statCondition && !d.statLine <;> rfl

open Sys2Proof.Machine in
/-- Settles O52: a tick of a disabled controller is `ForceOff()`. -/
theorem displayOff : Obligations.DisplayOff := by
  unfold Obligations.DisplayOff
  intro m d hoff
  rw [Display.tick_disabled m hoff]
  rfl

end

section
/-! The attribute scan, the pixel fetcher and the pixel mixer (R380 to R393, R400 to R412). -/

namespace Sys2Proof.Machine

namespace Display

variable {d : Display}

/-! ### The attribute scan (R380, R381) -/

/-- A scanned entry is appended where it hits, and nothing else changes. -/
theorem scanEntry_eq (m : Memory) (d : Display) (n : Nat) : d.scanEntry m n =
    { d with
      spr := if d.spr.length < 10 ∧
          spriteOnLine d.ly (m.read (oamAddr n 0)) (m.read (oamAddr n 1)) d.spriteHeight = true then
        d.spr ++ [{ y := m.read (oamAddr n 0), x := m.read (oamAddr n 1), tile := m.read (oamAddr n 2),
                    attr := m.read (oamAddr n 3) }]
      else d.spr } := by
  unfold scanEntry
  simp only [Bool.and_eq_true, decide_eq_true_eq]
  split <;> rfl

theorem mode2Tick_eq (m : Memory) (d : Display) : d.mode2Tick m =
    { (if d.dot % 2 = 1 then d.scanEntry m (d.dot / 2) else d) with
      wyMatched := d.wyMatched || decide (d.ly = d.wy), dot := d.dot + 1
      mode := if d.dot = 79 then .drawing else d.mode } := by
  have last : d.dot + 1 = 80 ↔ d.dot = 79 := by omega
  unfold mode2Tick
  by_cases hodd : d.dot % 2 = 1 <;> by_cases hwy : d.ly = d.wy <;> by_cases hdot : d.dot = 79 <;>
    simp [scanEntry_eq, hodd, hwy, hdot, last]

/-! ### What the fetcher reads (R401 to R404) -/

theorem tileBase_bounds (d : Display) (t : Byte) : 0x8000 ≤ d.tileBase t ∧ d.tileBase t ≤ 0x97F0 := by
  have := t.isLt
  unfold tileBase
  repeat' split
  all_goals omega

theorem spriteHeight_cases (d : Display) : d.spriteHeight = if d.lcdc.getLsbD 2 then 16 else 8 := rfl

theorem spriteRow_lt (d : Display) (p : Sprite) : d.spriteRow p < d.spriteHeight := by
  have hpos : 0 < d.spriteHeight := by unfold spriteHeight; split <;> omega
  have := Nat.mod_lt (d.ly.toNat + 16 + 256 - p.y.toNat) hpos
  unfold spriteRow
  simp only []
  split <;> omega

theorem dataAddr_bounds (d : Display) : 0x8000 ≤ d.dataAddr ∧ d.dataAddr + 1 ≤ 0x97FF := by
  have hbase := d.tileBase_bounds d.fTile
  unfold dataAddr
  split
  · omega
  · omega
  · next i _ =>
    have hrow := d.spriteRow_lt (d.sprite i)
    have htile := d.fTile.isLt
    rw [spriteHeight_cases] at hrow
    simp only []
    split at hrow
    · next h16 =>
      have even : (d.fTile &&& 0xFE).toNat ≤ 0xFE := by
        rw [BitVec.toNat_and]
        exact Nat.and_le_right
      rw [if_pos h16]
      omega
    · next h8 =>
      rw [if_neg h8]
      omega

theorem tileMapAddr_bounds (high : Bool) {row col : Nat} (hrow : row < 32) (hcol : col < 32) :
    0x9800 ≤ tileMapAddr high row col ∧ tileMapAddr high row col < 0xA000 := by
  unfold tileMapAddr
  split <;> omega

theorem fetchTileNo_congr {m m' : Memory} (d : Display) (h : ∀ a, 0x9800 ≤ a → a < 0xA000 → m.read a = m'.read a) :
    d.fetchTileNo m = d.fetchTileNo m' := by
  have hmap : ∀ high row col, row < 32 → col < 32 →
      m.read (tileMapAddr high row col) = m'.read (tileMapAddr high row col) :=
    fun high row col hrow hcol => h _ (tileMapAddr_bounds high hrow hcol).1 (tileMapAddr_bounds high hrow hcol).2
  unfold fetchTileNo
  split
  · exact hmap _ _ _ (by omega) (by omega)
  · exact hmap _ _ _ (by omega) (by omega)
  · rfl

theorem fetcherAct_congr {m m' : Memory} (d : Display) (h : ∀ a, 0x8000 ≤ a → a < 0xA000 → m.read a = m'.read a) :
    d.fetcherAct m = d.fetcherAct m' := by
  have hbounds := d.dataAddr_bounds
  unfold fetcherAct
  split
  · rw [fetchTileNo_congr d fun a ha => h a (by omega)]
  · rw [h _ (by omega) (by omega)]
  · rw [h _ (by omega) (by omega)]
  · rfl

/-! ### A step of the fetcher (R400) -/

theorem fetcherStep_first (m : Memory) (h : d.fSub = 0) : d.fetcherStep m = { d with fSub := 1 } := by
  simp [fetcherStep, h]

/-- From its second tick on a state acts. -/
theorem fetcherStep_second (m : Memory) (h : d.fSub = 1 ∨ d.fSub = 2) :
    d.fetcherStep m = ({ d with fSub := 2 } : Display).fetcherAct m := by
  rcases h with h | h <;> simp [fetcherStep, h]
  rw [← h]

theorem fetcherStep_congr {m m' : Memory} (d : Display) (h : ∀ a, 0x8000 ≤ a → a < 0xA000 → m.read a = m'.read a) :
    d.fetcherStep m = d.fetcherStep m' := by
  unfold fetcherStep
  simp only [fetcherAct_congr _ h]

/-! ### The pushes (R407, R408) -/

/-- The slots of an empty queue after the push of a background or window row are the row's pixels. -/
theorem slot_pushedRow (q : Fifo (BitVec 2)) (hq : q.size = 0) {k : Nat} (hk : k < 8) :
    (q.appendAll [d.px 0, d.px 1, d.px 2, d.px 3, d.px 4, d.px 5, d.px 6, d.px 7]).slot k = d.px k := by
  rw [Fifo.slot_appendAll _ _ hk (by simp [hq]), if_pos (by omega), hq]
  interval_cases k <;> rfl

/-- A queue filled to eight: its own slots, then transparent pixels. -/
theorem slot_filled (q : Fifo SpritePixel) (hq : q.size ≤ 8) {j : Nat} (hj : j < 8) :
    (q.appendAll (List.replicate (8 - q.size) transparentPixel)).slot j =
      if j < q.size then q.slot j else transparentPixel := by
  rw [Fifo.slot_appendAll _ _ hj (by simp; omega)]
  by_cases h : j < q.size
  · rw [if_pos h, if_neg (by omega)]
  · rw [if_neg h, if_pos (by omega), List.getElem?_replicate, if_pos (by omega)]
    rfl

theorem fetcherAct_sprite (m : Memory) {i : Nat} (h : d.fState = .push) (hl : d.fLayer = .spr i) :
    d.fetcherAct m = { d.pushSprite i with fState := .tileNo, fSub := 0 } := by
  unfold fetcherAct
  rw [h]
  simp only [hl]

theorem fetcherAct_row (m : Memory) (h : d.fState = .push) (hl : d.fLayer = .bg ∨ d.fLayer = .win) :
    d.fetcherAct m = (d.pushBackground.map fun e => { e with fState := .tileNo, fSub := 0 }).getD d := by
  unfold fetcherAct
  rw [h]
  rcases hl with hl | hl <;> simp only [hl] <;> cases d.pushBackground <;> rfl

theorem mergePixel_eq (d : Display) (p : Sprite) (k : Nat) (s : SpritePixel) : d.mergePixel p k s =
    if s.color = 0 ∧ d.spritePx p k ≠ 0 then
      { color := d.spritePx p k, pal := p.attr.getLsbD 4, bgprio := p.attr.getLsbD 7 }
    else s := by
  simp only [mergePixel, Bool.and_eq_true, decide_eq_true_eq]

/-- A slot of the queue a sprite's push leaves (R408). -/
theorem slot_pushSprite (d : Display) (i : Nat) (hq : d.spFifo.size ≤ 8) {j : Nat} (hj : j < 8) :
    (d.pushSprite i).spFifo.slot j =
      let old := if j < d.spFifo.size then d.spFifo.slot j else transparentPixel
      let skip := d.lx + 8 - (d.sprite i).x.toNat
      if skip + j < 8 then d.mergePixel (d.sprite i) (skip + j) old else old := by
  simp only [pushSprite]
  rw [slot_mergeSprite _ _ _ _ (by omega) hj, slot_filled _ hq hj]
  simp only [Nat.lt_sub_iff_add_lt']

/-! ### The least sprite reached (R391) -/

/-- Whether the sprite at a buffer index has been reached and not yet asked for. -/
def due (asked : List Bool) (lx : Nat) (p : Sprite) (i : Nat) : Prop := asked[i]? ≠ some true ∧ p.x.toNat ≤ lx + 8

theorem due_iff (asked : List Bool) (lx : Nat) (p : Sprite) (i : Nat) :
    (!(asked[i]?.getD false) && decide (p.x.toNat ≤ lx + 8)) = true ↔ due asked lx p i := by
  rw [Bool.and_eq_true, decide_eq_true_eq]
  refine and_congr_left' ?_
  rcases asked[i]? with _ | _ | _ <;> simp

theorem nextSprite_cons_due {asked : List Bool} {lx : Nat} {p : Sprite} (l : List Sprite) {i : Nat}
    (h : due asked lx p i) : nextSprite asked lx (p :: l) i = some i := if_pos ((due_iff asked lx p i).mpr h)

theorem nextSprite_cons_not_due {asked : List Bool} {lx : Nat} {p : Sprite} (l : List Sprite) {i : Nat}
    (h : ¬ due asked lx p i) : nextSprite asked lx (p :: l) i = nextSprite asked lx l (i + 1) :=
  if_neg (mt (due_iff asked lx p i).mp h)

/-- No sprite is found if none is due. -/
theorem nextSprite_eq_none {asked : List Bool} {lx : Nat} (l : List Sprite) (k : Nat)
    (h : ∀ j p, l[j]? = some p → ¬ due asked lx p (k + j)) : nextSprite asked lx l k = none := by
  induction l generalizing k with
  | nil => rfl
  | cons q l ih =>
    have hq : ¬ due asked lx q k := h 0 q rfl
    rw [nextSprite_cons_not_due l hq]
    exact ih (k + 1) fun j p hp => by
      rw [Nat.add_assoc, Nat.add_comm 1 j]
      exact h (j + 1) p hp

/-- The first sprite that is due is found. -/
theorem nextSprite_eq_some {asked : List Bool} {lx : Nat} {p : Sprite} (l : List Sprite) (k i : Nat)
    (hp : l[i]? = some p) (hdue : due asked lx p (k + i))
    (hleast : ∀ j < i, ∀ q, l[j]? = some q → ¬ due asked lx q (k + j)) :
    nextSprite asked lx l k = some (k + i) := by
  induction l generalizing k i with
  | nil => cases hp
  | cons q l ih =>
    cases i with
    | zero =>
      cases hp
      have hnow : due asked lx p k := hdue
      exact nextSprite_cons_due l hnow
    | succ i =>
      have hk : ∀ j, k + 1 + j = k + (j + 1) := by omega
      have hq : ¬ due asked lx q k := hleast 0 (by omega) q rfl
      rw [nextSprite_cons_not_due l hq, ih (k + 1) i hp (by rwa [hk]) ?_, hk]
      intro j hj q' hq'
      rw [hk]
      exact hleast (j + 1) (by omega) q' hq'

/-! ### The arbitration of a drawing tick (R390 to R392) -/

theorem arbitrate_sprite {i : Nat} (h : d.fLayer = .spr i) : d.arbitrate = (d, false) := by
  simp [arbitrate, h, Layer.isSprite]

theorem isSprite_false (h : ∀ i, d.fLayer ≠ .spr i) : d.fLayer.isSprite = false := by
  cases hl : d.fLayer with
  | spr i => exact absurd hl (h i)
  | bg | win => rfl

theorem arbitrate_next {i : Nat} (h : ∀ i, d.fLayer ≠ .spr i) (hn : nextSprite d.asked d.lx d.spr 0 = some i) :
    d.arbitrate =
      ({ d with asked := d.asked.set i true, fLayer := .spr i, fState := .tileNo, fSub := 0 }, false) := by
  simp [arbitrate, isSprite_false h, hn]

theorem arbitrate_none (h : ∀ i, d.fLayer ≠ .spr i) (hn : nextSprite d.asked d.lx d.spr 0 = none) :
    d.arbitrate = if d.windowReached then (d.enterWindow, false) else (d, true) := by
  simp [arbitrate, isSprite_false h, hn]

theorem windowReached_iff (d : Display) : d.windowReached = true ↔
    d.lcdc.getLsbD 5 = true ∧ d.wyMatched = true ∧ d.wx.toNat ≤ d.lx + 7 ∧ d.fLayer ≠ .win := by
  simp only [windowReached, Bool.and_eq_true, decide_eq_true_eq, and_assoc, ge_iff_le, ne_eq]

theorem enterWindow_again (h : d.winEngaged = true) :
    d.enterWindow = { d with fLayer := .win, fState := .tileNo, fSub := 0 } := by
  unfold enterWindow
  rw [if_pos h]

theorem enterWindow_first (h : d.winEngaged = false) :
    d.enterWindow = { d with
      fLayer := .win, fState := .tileNo, fSub := 0, winEngaged := true, bgFifo := d.bgFifo.empty, fX := 0
      discard := 0 } := by
  unfold enterWindow
  rw [if_neg (by rw [h]; nofun)]

/-! ### The end of a drawing tick (R390) -/

/-- Before the last dot of a scanline, drawing ends with the 160th pixel only. -/
theorem drawnDot_eq (h : d.dot ≠ 455) :
    d.drawnDot = ({ d with dot := d.dot + 1, mode := if d.lx = 160 then .hblank else d.mode }, 0) := by
  unfold drawnDot
  rw [if_neg (by simp only []; omega)]
  simp only []
  split <;> rfl

/-- A drawing tick before the last dot of a scanline: arbitration, fetcher, mixer, dot. -/
theorem mode3Tick_eq (m : Memory) {e : Display} {run : Bool} (h : d.dot ≠ 455) (ha : d.arbitrate = (e, run)) :
    d.mode3Tick m =
      let x := (e.fetcherStep m).mixWhen run
      ({ x.1 with dot := x.1.dot + 1, mode := if x.1.lx = 160 then .hblank else x.1.mode }, x.2, 0) := by
  have hdot := (d.drawn_sameLine m).2
  rw [ha] at hdot
  simp only [mode3Tick, ha]
  rw [drawnDot_eq (hdot ▸ h)]

/-! ### The mixer (R410, R412) -/

theorem paletteShade_eq (pal : Byte) (i : BitVec 2) : paletteShade pal i = (pal >>> (2 * i.toNat)).setWidth 2 := by
  rw [paletteShade, BitVec.setWidth_eq_extractLsb' (by decide)]
  exact BitVec.eq_of_toNat_eq rfl

theorem mixerStep_empty (h : d.bgFifo.size = 0) : d.mixerStep = (d, none) := by
  simp [mixerStep, Fifo.first, h]

theorem mixerStep_discard (h : d.bgFifo.size ≠ 0) (hd : 0 < d.discard) :
    d.mixerStep = ({ d with bgFifo := d.bgFifo.pop, discard := d.discard - 1 }, none) := by
  simp [mixerStep, Fifo.first, h, hd]

theorem mixerStep_emit (h : d.bgFifo.size ≠ 0) (hd : d.discard = 0) :
    d.mixerStep = ({ d with bgFifo := d.bgFifo.pop, spFifo := d.spFifo.pop, lx := d.lx + 1 },
      some { shade := d.mixShade (d.bgFifo.slot 0) d.spFifo.first, column := d.lx, row := d.ly }) := by
  simp [mixerStep, Fifo.first, h, hd]

/-- The mix rule over the sprite queue, empty or not. -/
theorem mixShade_first (d : Display) (b : BitVec 2) :
    d.mixShade b d.spFifo.first =
      let bgc := if d.lcdc.getLsbD 0 then b else 0
      let p := d.spFifo.slot 0
      if d.spFifo.size ≠ 0 ∧ p.color ≠ 0 ∧ ¬ (p.bgprio = true ∧ bgc ≠ 0) ∧ d.lcdc.getLsbD 1 = true then
        paletteShade (if p.pal then d.obp1 else d.obp0) p.color
      else paletteShade d.bgp bgc := by
  unfold mixShade Fifo.first
  simp only []
  generalize (if d.lcdc.getLsbD 0 then b else 0) = bgc
  by_cases h : d.spFifo.size = 0
  · simp [h]
  · simp only [h, if_false, Bool.and_eq_true, decide_eq_true_eq, Bool.not_eq_true', Bool.and_eq_false_iff,
      decide_eq_false_iff_not, not_and_or, Bool.not_eq_true, ne_eq, not_false_eq_true, true_and, and_assoc, not_not]

end Display

end Sys2Proof.Machine

open Sys2Proof.Machine in
/-- Settles O56: the scan's entry where it hits (`scanEntry_eq`), and the rest of the tick (`mode2Tick_eq`). -/
theorem attributeScan : Obligations.AttributeScan := by
  unfold Obligations.AttributeScan
  intro m d hm
  rw [Display.mode2Tick_eq]
  refine ⟨?_, rfl, rfl, by rw [hm]⟩
  have hit : spriteOnLine d.ly (m.read (oamAddr (d.dot / 2) 0)) (m.read (oamAddr (d.dot / 2) 1)) d.spriteHeight = true ↔
      m.read (0xFE00 + 4 * (d.dot / 2) + 1) ≠ 0 ∧
        (m.read (0xFE00 + 4 * (d.dot / 2))).toNat ≤ d.ly.toNat + 16 ∧
        d.ly.toNat + 16 < (m.read (0xFE00 + 4 * (d.dot / 2))).toNat + (if d.lcdc.getLsbD 2 then 16 else 8) := by
    simp only [spriteOnLine, Bool.and_eq_true, decide_eq_true_eq, and_assoc]
    rfl
  by_cases hodd : d.dot % 2 = 1
  · simp only [hodd, if_true, true_and, Display.scanEntry_eq, hit]
    rfl
  · simp only [hodd, if_false, false_and]

open Sys2Proof.Machine in
/-- Settles O57: what is read lies in video RAM by the bounds of each address; each state is one case of its action, and
the slots a push leaves are those of `slot_pushedRow` and `slot_pushSprite`. -/
theorem fetchesInVram : Obligations.FetchesInVram := by
  unfold Obligations.FetchesInVram
  intro d
  refine ⟨d.dataAddr_bounds.1, d.dataAddr_bounds.2, fun m m' h => d.fetchTileNo_congr h,
    fun m m' h => d.fetcherStep_congr h, fun m => ⟨Display.fetcherStep_first m, fun hsub => ?_⟩⟩
  rw [Display.fetcherStep_second m hsub]
  refine ⟨fun h => ?tileNo, fun h => ?dataLo, fun h => ?dataHi, fun h hl => ?row, fun i h hl hq => ?sprite⟩
  case tileNo => simp only [Display.fetcherAct, h]; rfl
  case dataLo => simp only [Display.fetcherAct, h]; rfl
  case dataHi => simp only [Display.fetcherAct, h]; rfl
  case row =>
    rw [Display.fetcherAct_row m (d := { d with fSub := 2 }) h hl]
    refine ⟨fun hq => ?_, fun hq => ?_⟩
    · rw [Display.pushBackground, if_pos hq]
      rfl
    · rw [Display.pushBackground, if_neg (not_not.mpr hq)]
      refine ⟨_, ?_, ?_, ?_, fun k hk => Display.slot_pushedRow (d := d) d.bgFifo hq hk⟩
      · simp only [Option.map_some, Option.getD_some, Bool.and_eq_true, decide_eq_true_eq]
        rfl
      · simp [hq]
      · simp
  case sprite =>
    rw [Display.fetcherAct_sprite m (d := { d with fSub := 2 }) h hl]
    refine ⟨(({ d with fSub := 2 } : Display).pushSprite i).spFifo, rfl, ?_, ?_, fun j hj => ?_⟩
    · simp [Display.pushSprite]; omega
    · simp [Display.pushSprite]
    · rw [Display.slot_pushSprite { d with fSub := 2 } i hq hj]
      simp only [Display.mergePixel_eq]
      exact (ite_and ..).symm

open Sys2Proof.Machine in
/-- Settles O58: the arbitration's answer in each case, then the end of the tick (`mode3Tick_eq`); the mixer by its
three cases. -/
theorem pixelMixer : Obligations.PixelMixer := by
  unfold Obligations.PixelMixer
  intro d
  refine ⟨fun m hdot => ⟨fun i hl => ?_, fun hl => ⟨fun i hi hleast => ?_, fun hnone => ?_⟩⟩,
    Display.mixerStep_empty, Display.mixerStep_discard, fun hq hd => ?_⟩
  · exact Display.mode3Tick_eq m hdot (Display.arbitrate_sprite hl)
  · obtain ⟨p, hp, hasked, hx⟩ := hi
    have hn := Display.nextSprite_eq_some d.spr 0 i hp (by rw [Nat.zero_add]; exact ⟨hasked, hx⟩)
      fun j hj q hq hdue => hleast j hj ⟨q, hq, by rw [Nat.zero_add] at hdue; exact hdue⟩
    rw [Nat.zero_add] at hn
    exact Display.mode3Tick_eq m hdot (Display.arbitrate_next hl hn)
  · have hn := Display.nextSprite_eq_none d.spr 0 fun i p hp hdue =>
      hnone i ⟨p, hp, by rw [Nat.zero_add] at hdue; exact hdue⟩
    have ha := Display.arbitrate_none hl hn
    refine ⟨fun hw he => ?_, fun hw he => ?_, fun hw => ?_⟩
    · rw [if_pos (d.windowReached_iff.mpr hw), Display.enterWindow_again he] at ha
      exact Display.mode3Tick_eq m hdot ha
    · rw [if_pos (d.windowReached_iff.mpr hw), Display.enterWindow_first he] at ha
      exact Display.mode3Tick_eq m hdot ha
    · rw [if_neg (mt d.windowReached_iff.mp hw)] at ha
      exact Display.mode3Tick_eq m hdot ha
  · simp only [Display.mixerStep_emit hq hd, Display.mixShade_first, Display.paletteShade_eq]
    rfl

end

section
/-! The ways a step ends the run (R330 to R334), and the host's turn before it (R473, R476). -/

namespace Sys2Proof.Machine

/-- What the spec says a raise reports of the state it was made in (R330 to R332). -/
def Raise.Reports (r : Raise) (k : State) : Prop :=
  match r with
  | .illegalOpcode op addr => addr = k.cpu.opAddr ∧ k.params.illegalOutcome = .fault ∧ op ∈ unusedOpcodes
  | .stopped pc => pc = k.cpu.pc ∧ k.params.stopOutcome = .terminal
  | .configError kind => kind = .noRam ∧ k.cart.ramMissing = true

/-- Whatever is raised reports what it should; of the states before, nothing need be known. -/
theorem reports_primitive : Primitive (fun _ _ => True) Raise.Reports :=
  have read : ∀ a, Op.Sat (fun _ _ => True) Raise.Reports (busRead a) := fun a =>
    busRead_sat (fun _ => trivial) a (fun _ => trivial) fun _ hm => ⟨rfl, hm⟩
  have write : ∀ a v, Op.Sat (fun _ _ => True) Raise.Reports (busWrite a v) := fun a v =>
    busWrite_sat (fun _ => trivial) a v (fun _ => trivial) fun _ hm => ⟨rfl, hm⟩
  { refl := fun _ => trivial
    trans := fun _ _ _ _ _ => trivial
    cpu := fun _ _ => trivial
    tick := tick_sat (fun _ _ _ _ _ => trivial) (fun _ => trivial)
      (dmaTick_sat (fun _ => trivial) (fun _ _ _ _ _ => trivial) (fun _ _ => trivial) read write) fun _ => trivial
    read := read
    write := write
    stop := fun _ h => ⟨rfl, h⟩
    illegal := fun _ _ h hop => ⟨rfl, h, hop⟩ }

end Sys2Proof.Machine

open Sys2Proof.Machine in
/-- Settles O13: every raise of a primitive reports what it should (`reports_primitive`), and a step raises nothing
else. -/
theorem terminalOutcomes : Obligations.TerminalOutcomes := by
  unfold Obligations.TerminalOutcomes
  intro s f e
  obtain ⟨r, k, rfl, -, hr⟩ := reports_primitive.step_fault (fun _ _ => trivial) (fun _ => trivial) e
  cases r with
  | illegalOpcode op addr =>
    obtain ⟨rfl, hfault, hop⟩ := hr
    exact .inl ⟨op, k, rfl, hfault, hop⟩
  | stopped pc =>
    obtain ⟨rfl, hterminal⟩ := hr
    exact .inr (.inl ⟨k, rfl, hterminal⟩)
  | configError kind =>
    obtain ⟨rfl, hmissing⟩ := hr
    exact .inr (.inr ⟨k, rfl, hmissing⟩)

namespace Sys2Proof.Machine

/-- The poll's request, as a test of the lines that fell (R473). -/
theorem State.poll_eq (s : State) : s.poll =
    { s with
      joypad := { s.joypad with prev := s.joypad.low }
      iflag := s.iflag ||| (if s.joypad.prev &&& ~~~s.joypad.low = 0 then 0 else 0b10000) } := by
  unfold State.poll State.request Joypad.fell Joypad.poll
  by_cases h : s.joypad.prev &&& ~~~s.joypad.low = 0 <;> simp [h]

end Sys2Proof.Machine

open Sys2Proof.Machine in
/-- Settles O11: a step begins with the host's turn, which takes the event, sets the buttons and polls. -/
theorem hostPoll : Obligations.HostPoll := by
  unfold Obligations.HostPoll
  intro s b rest h
  have hturn : s.hostTurn = ({ s with hostInput := rest, joypad := { s.joypad with buttons := b } } : State).poll := by
    unfold State.hostTurn
    rw [h]
    rfl
  show cpuStepPhases s.hostTurn = _
  rw [hturn, State.poll_eq]

end

section
/-! A step, phase by phase, up to the instruction it runs (R310 to R319). -/

namespace Sys2Proof.Machine

/-! ### The phases -/

/-- A step with no host event, whose phases fetch an instruction, runs it. -/
theorem step_of_phases {s t : State} {i : Instr} (h : s.hostInput = []) (e : cpuStepPhases s = .ok (some i) t) :
    step s = exec i t := by
  unfold step beginStep
  rw [hostTurn_nil h, e]

/-- A phase whose instruction is wrapped as fetched. -/
theorem map_of_ok {α β : Type} {x : Op α} (g : α → β) {s t : State} {a : α} (h : x s = .ok a t) :
    (g <$> x) s = .ok (g a) t := map_ok_iff.mpr ⟨a, h, rfl⟩

theorem map_congr {α β : Type} {x : Op α} (g : α → β) {s t : State} (h : x s = x t) : (g <$> x) s = (g <$> x) t := by
  show EStateM.map g x s = EStateM.map g x t
  simp only [EStateM.map, h]

theorem phases_prefixed {s : State} (hp : s.cpu.prefixedPending = true) :
    cpuStepPhases s = (some <$> prefixedPhase) s := by
  unfold cpuStepPhases
  rw [if_pos hp]

theorem phases_idle {s : State} (hp : s.cpu.prefixedPending = false) (hh : s.cpu.halted = true)
    (hn : s.ie &&& s.iflag = 0) : cpuStepPhases s = ((fun _ => none) <$> charge 1) s := by
  have hidle : s.pending = 0 := hn
  simp only [cpuStepPhases, hp, hh, hidle, decide_true, Bool.and_self, if_true, if_false, Bool.false_eq_true]

theorem phases_running {s : State} (hp : s.cpu.prefixedPending = false)
    (h : s.cpu.halted = false ∨ s.ie &&& s.iflag ≠ 0) : cpuStepPhases s = (some <$> runningPhase) s := by
  have hbusy : (s.cpu.halted && decide (s.pending = 0)) = false := by
    rcases h with h | h
    · rw [h, Bool.false_and]
    · rw [show decide (s.pending = 0) = false from decide_eq_false h, Bool.and_false]
  simp only [cpuStepPhases, hp, hbusy, if_false, Bool.false_eq_true]

/-- The running phases where no interrupt is taken: the check of the halted state, the delayed enable, and the fetch. -/
theorem runningPhase_of_not_due {s : State} (h : (s.withCpu s.cpu.wake).dispatchDue = false) :
    runningPhase s = fetchFirst (s.withCpu s.cpu.wake.applyImeSched) := by
  have hcheck : dispatchCheck (s.withCpu s.cpu.wake) = .ok () (s.withCpu s.cpu.wake) := by
    simp only [dispatchCheck, h, if_false, Bool.false_eq_true]
  unfold runningPhase
  rw [updateCpu_bind, bind_of_ok hcheck]
  rfl

/-- The running phases where one is taken. -/
theorem runningPhase_of_due {s u : State} (h : (s.withCpu s.cpu.wake).dispatchDue = true)
    (e : dispatch (s.withCpu s.cpu.wake) = .ok () u) :
    runningPhase s = fetchFirst (u.withCpu u.cpu.applyImeSched) := by
  have hcheck : dispatchCheck (s.withCpu s.cpu.wake) = .ok () u := by
    simp only [dispatchCheck, h, if_true, e]
  unfold runningPhase
  rw [updateCpu_bind, bind_of_ok hcheck]
  rfl

theorem dispatchDue_eq_false {s : State} (h : s.cpu.ime = false ∨ s.ie &&& s.iflag = 0) : s.dispatchDue = false := by
  rcases h with h | h
  · rw [State.dispatchDue, h, Bool.false_and]
  · rw [State.dispatchDue, show decide (s.pending ≠ 0) = false from decide_eq_false (not_not.mpr h), Bool.and_false]

theorem dispatchDue_eq_true {s : State} (h : s.cpu.ime = true) (hn : s.ie &&& s.iflag ≠ 0) : s.dispatchDue = true := by
  rw [State.dispatchDue, h, show decide (s.pending ≠ 0) = true from decide_eq_true hn, Bool.and_self]

/-! ### The CPU's part of a phase -/

theorem Cpu.wake_of_not_halted {c : Cpu} (h : c.halted = false) : c.wake = c := by
  unfold Cpu.wake
  rw [if_neg (by rw [h]; nofun)]

/-- Waking with `IME` set arms nothing (R312). -/
theorem Cpu.wake_of_ime {c : Cpu} (h : c.ime = true) : c.wake = { c with halted := false } := by
  cases hh : c.halted with
  | false => rw [Cpu.wake_of_not_halted hh, ← hh]
  | true => simp only [Cpu.wake, hh, h, if_true, Bool.not_true, Bool.or_false]

/-- Waking with `IME` clear arms the halt bug (R313). -/
theorem Cpu.wake_of_not_ime {c : Cpu} (hh : c.halted = true) (h : c.ime = false) :
    c.wake = { c with halted := false, haltBug := true } := by
  simp only [Cpu.wake, hh, h, if_true, Bool.not_false, Bool.or_true]

/-- A halted CPU with `IME` set and a request pending goes on as one that is not halted (R312). -/
theorem phases_resume {s : State} (hp : s.cpu.prefixedPending = false) (hime : s.cpu.ime = true)
    (hpend : s.ie &&& s.iflag ≠ 0) :
    cpuStepPhases s = cpuStepPhases (s.withCpu { s.cpu with halted := false }) := by
  rw [phases_running hp (.inr hpend), phases_running (s := s.withCpu { s.cpu with halted := false }) hp (.inl rfl)]
  refine map_congr some ?_
  unfold runningPhase
  rw [updateCpu_bind, updateCpu_bind, Cpu.wake_of_ime hime, withCpu_cpu, Cpu.wake_of_not_halted rfl]
  rfl

theorem Cpu.applyImeSched_eq (c : Cpu) :
    c.applyImeSched = { c with ime := c.ime || c.imeSched, imeSched := false } := by
  unfold Cpu.applyImeSched
  cases h : c.imeSched with
  | false =>
    rw [if_neg nofun, Bool.or_false, ← h]
  | true => rw [if_pos rfl, Bool.or_true]

/-! ### Fetching an opcode byte -/

/-- An opcode byte fetched from a steady address; its address is kept (R317, R318, R330). -/
theorem fetchOpcode_ok {s : State} {c : Cpu} (hs : s.chargeSafe) (h : s.steady c.pc) :
    fetchOpcode (s.withCpu c) =
      .ok (s.peek c.pc) ((s.later 1).withCpu ({ c with opAddr := c.pc } : Cpu).afterFetch) := by
  unfold fetchOpcode
  rw [updateCpu_bind]
  exact fetch8_steady (c := { c with opAddr := c.pc }) hs h

theorem fetchSecond_ok {s : State} {c : Cpu} (hs : s.chargeSafe) (h : s.steady c.pc) :
    fetchSecond (s.withCpu c) =
      .ok (secondEntry (s.peek c.pc)) ((s.later 1).withCpu ({ c with opAddr := c.pc } : Cpu).afterFetch) := by
  unfold fetchSecond
  rw [bind_of_ok (fetchOpcode_ok hs h)]
  rfl

theorem Cpu.afterFetch_eq (c : Cpu) :
    c.afterFetch = { c with pc := if c.haltBug then c.pc else c.pc + 1, haltBug := false } := by
  unfold Cpu.afterFetch
  cases h : c.haltBug with
  | false => rw [if_neg nofun, if_neg nofun, ← h]
  | true => rw [if_pos rfl, if_pos rfl]

/-- STOP is one fetched byte, so it leaves none to its immediates (R292). -/
theorem fetchedBytes_stop {i : Instr} {n : Nat} (hn : n + 1 = (fetchedBytes i).length) (h : i = .stop) : n = 0 := by
  subst h
  exact Nat.succ_injective hn

/-- The first byte of an instruction fetched with the halt bug armed stays at `pc`, and is read again as its first
immediate byte (R313, R318). -/
theorem fetchFirst_haltBug {s : State} {c : Cpu} {i : Instr} {n : Nat} (hs : s.chargeSafe) (hb : c.haltBug = true)
    (hst : ∀ k < n + 1, s.steady (c.pc + BitVec.ofNat 16 k))
    (hd : decodeFirst (s.peek c.pc :: (List.range n).map fun k => s.peek (c.pc + BitVec.ofNat 16 k)) = .ok (i, []))
    (hn : i = .stop → n = 0) :
    fetchFirst (s.withCpu c) = .ok i ((s.later (n + 1)).withCpu
      { c with haltBug := false, opAddr := c.pc, pc := c.pc + BitVec.ofNat 16 n }) := by
  have h0 : s.steady c.pc := by simpa using hst 0 (Nat.succ_pos n)
  unfold fetchFirst
  rw [bind_of_ok (fetchOpcode_ok hs h0), Cpu.afterFetch_eq]
  simp only [hb, if_true]
  have himm := fetchImmediates_ok (s := s.later 1) (c := { c with haltBug := false, opAddr := c.pc }) (i := i) (n := n)
    (later_chargeSafe 1 hs) rfl (firstEntry_encodes (s.peek c.pc))
    (fun k hk => steady_later 1 hs (hst k (Nat.lt_succ_of_lt hk))) ?_ hn
  · rw [himm, later_later 1 n hs, Nat.add_comm]
  · rw [← hd]
    refine congrArg (takeImmediates _) (List.map_congr_left fun k hk => ?_)
    exact peek_later 1 hs (hst k (Nat.lt_succ_of_lt (List.mem_range.mp hk)))

end Sys2Proof.Machine

open Sys2Proof Sys2Proof.Machine in
/-- Settles O5: the phases come to the fetch with a scheduled enable applied, and the fetch is `fetchFirst_ok`. -/
theorem stepRunsDecodedInstruction : Obligations.StepRunsDecodedInstruction := by
  unfold Obligations.StepRunsDecodedInstruction
  intro s i hhost hp hh hb hidle hs n hst hd
  obtain ⟨k, hk⟩ : ∃ k, k + 1 = n := ⟨n - 1, Nat.succ_pred_eq_of_pos (fetchedBytes_pos i)⟩
  have hstop := fetchedBytes_stop (i := i) hk
  rw [← hk] at hst hd ⊢
  have hnotdue : (s.withCpu s.cpu.wake).dispatchDue = false :=
    dispatchDue_eq_false (by rw [Cpu.wake_of_not_halted hh]; exact hidle)
  refine step_of_phases hhost ?_
  rw [phases_running hp (.inl hh)]
  refine map_of_ok some ?_
  rw [runningPhase_of_not_due hnotdue, Cpu.wake_of_not_halted hh, Cpu.applyImeSched_eq]
  exact fetchFirst_ok (c := { s.cpu with ime := s.cpu.ime || s.cpu.imeSched, imeSched := false }) hs hb hst hd hstop

open Sys2Proof Sys2Proof.Machine in
/-- Settles O6: the prefixed phase clears the flag and fetches by the second table. -/
theorem prefixedStep : Obligations.PrefixedStep := by
  unfold Obligations.PrefixedStep
  intro s hhost hp hs hst
  refine step_of_phases hhost ?_
  rw [phases_prefixed hp]
  refine map_of_ok some ?_
  unfold prefixedPhase
  rw [updateCpu_bind, fetchSecond_ok (c := { s.cpu with prefixedPending := false }) hs hst, Cpu.afterFetch_eq]
  rfl

open Sys2Proof Sys2Proof.Machine in
/-- Settles O7: the idle step is its charge; with `IME` set the CPU woken is the one not halted; with `IME` clear the
halt bug is armed, and the fetch is `fetchFirst_haltBug`. -/
theorem haltedStep : Obligations.HaltedStep := by
  unfold Obligations.HaltedStep
  intro s hhost hp hh hs
  refine ⟨fun hidle => ?idle, fun hime hpend => ?resume, fun hime hpend i => ?haltBug⟩
  case idle =>
    unfold step beginStep
    rw [hostTurn_nil hhost, phases_idle hp hh hidle, map_of_ok _ (charge_ok 1 hs)]
  case resume =>
    have hhost' : (s.withCpu { s.cpu with halted := false }).hostInput = [] := hhost
    show step s = step (s.withCpu { s.cpu with halted := false })
    unfold step beginStep
    rw [hostTurn_nil hhost, hostTurn_nil hhost', phases_resume hp hime hpend]
  case haltBug =>
    intro n hst hd
    obtain ⟨k, hk⟩ : ∃ k, k + 1 = n := ⟨n - 1, Nat.succ_pred_eq_of_pos (fetchedBytes_pos i)⟩
    have hstop := fetchedBytes_stop (i := i) hk
    rw [← hk] at hst hd ⊢
    refine step_of_phases hhost ?_
    rw [phases_running hp (.inr hpend)]
    refine map_of_ok some ?_
    have hwake := Cpu.wake_of_not_ime hh hime
    rw [runningPhase_of_not_due (dispatchDue_eq_false (.inl (by rw [hwake]; exact hime))), hwake, Cpu.applyImeSched_eq]
    simp only [hime, Bool.false_or]
    exact fetchFirst_haltBug
      (c := { s.cpu with halted := false, haltBug := true, ime := s.cpu.imeSched, imeSched := false })
      hs rfl hst hd hstop

end

section
/-! Interrupt dispatch: what it leaves where its pushes are safe, what every dispatch that completes does to the CPU,
and the step that begins with one (R315, R320 to R325). -/

namespace Sys2Proof.Machine

/-! ### The choice of the source (R322 to R324) -/

theorem lowestBit_eq_some {m : BitVec 5} {i : Nat} (hi : i < 5) (hbit : m.getLsbD i = true)
    (hleast : ∀ j < i, m.getLsbD j = false) : lowestBit m = some i := by
  revert m
  interval_cases i <;> decide

theorem lowestBit_zero : lowestBit 0 = none := rfl

/-- Choosing a vector changes `pc` and, where a source is left, clears its request. -/
theorem takeVector_some {t : State} {c : Cpu} {snap : BitVec 5} {i : Nat} (h : lowestBit (t.iflag &&& snap) = some i) :
    (t.withCpu c).takeVector snap =
      ({ t with iflag := t.iflag &&& ~~~(1#5 <<< i) } : State).withCpu { c with pc := vector i } := by
  unfold State.takeVector
  rw [show lowestBit ((t.withCpu c).iflag &&& snap) = some i from h]
  rfl

theorem takeVector_none {t : State} {c : Cpu} {snap : BitVec 5} (h : lowestBit (t.iflag &&& snap) = none) :
    (t.withCpu c).takeVector snap = t.withCpu { c with pc := 0x0000 } := by
  unfold State.takeVector
  rw [show lowestBit ((t.withCpu c).iflag &&& snap) = none from h]
  rfl

/-- It leaves the arrays, the DMA machine, IE and the cartridge. -/
theorem takeVector_same (s : State) (snap : BitVec 5) :
    (s.takeVector snap).mem = s.mem ∧ (s.takeVector snap).dma = s.dma ∧ (s.takeVector snap).ie = s.ie ∧
      (s.takeVector snap).cart = s.cart := by
  unfold State.takeVector
  split <;> exact ⟨rfl, rfl, rfl, rfl⟩

/-! ### A dispatch with a safe stack (R320) -/

theorem storeSafe_of_ramless {s t : State} {a : Addr} (hc : t.cart.ramless = s.cart.ramless) (h : s.storeSafe a) :
    t.storeSafe a := fun ht => h (hc ▸ ht)

/-- After a push whose second store is safe too, ticks cannot end the run. -/
theorem pushed_chargeSafe {s : State} (idle : Nat) (v : BitVec 16) (h : s.pushSafe) (h2 : s.storeSafe (s.cpu.sp - 2)) :
    (s.pushed idle v).chargeSafe := by
  obtain ⟨h1, hst, -⟩ := h
  have hs := later_chargeSafe (idle + 1) h1.1
  have hcart := later_cart (idle + 1) h1.1
  have hfirst := stored_chargeSafe (hiByte v) hs (storeSafe_of hcart hst)
  have hramless : ((s.later (idle + 1)).stored (s.cpu.sp - 1) (hiByte v)).cart.ramless = s.cart.ramless := by
    rw [(stored_sameEnding _ _ _).2, hcart]
  refine stored_chargeSafe (loByte v) (later_chargeSafe 1 hfirst) (storeSafe_of_ramless ?_ h2)
  rw [later_cart 1 hfirst, hramless]

/-- A dispatch: two idle cycles, the pushes with IE read between them, the choice, one more cycle. -/
theorem dispatch_ok {s : State} (h : s.pushSafe) (h2 : s.storeSafe (s.cpu.sp - 2)) :
    dispatch s = .ok ()
      ((((s.pushed 2 s.cpu.pc).withCpu { s.cpu with ime := false, imeSched := false, sp := s.cpu.sp - 2 }).takeVector
        ((s.later 3).stored (s.cpu.sp - 1) (hiByte s.cpu.pc)).ie).later 1) := by
  have hend : (s.pushed 2 s.cpu.pc).chargeSafe := pushed_chargeSafe 2 _ h h2
  obtain ⟨h1, hst, h3⟩ := h
  have hs : s.chargeSafe := h1.1
  have hsp : s.cpu.sp - 1 - 1 = s.cpu.sp - 2 := BitVec.sub_sub _ _ _
  have hcharge := charge_ok (s := s.withCpu { s.cpu with ime := false, imeSched := false }) 2 hs
  have hpush1 := push8_ok (s := (s.later 2).withCpu { s.cpu with ime := false, imeSched := false }) (hiByte s.cpu.pc)
    (later_accessSafe 2 h1)
  have hsafe1 := later_chargeSafe 3 hs
  have hst1 := storeSafe_of (later_cart 3 hs) hst
  have hpush2 := push8_ok
    (s := ((s.later 3).stored (s.cpu.sp - 1) (hiByte s.cpu.pc)).withCpu
      { s.cpu with ime := false, imeSched := false, sp := s.cpu.sp - 1 }) (loByte s.cpu.pc) (by
        show State.accessSafe _ (s.cpu.sp - 1 - 1)
        rw [hsp]
        exact stored_accessSafe _ hsafe1 hst1 (later_accessSafe 3 h3))
  simp only [withCpu_cpu, later_withCpu, stored_withCpu, withCpu_withCpu, later_later 2 1 hs, hsp]
    at hcharge hpush1 hpush2
  unfold dispatch
  rw [updateCpu_bind, bind_of_ok hcharge, look_bind, withCpu_cpu, bind_of_ok hpush1, look_bind, bind_of_ok hpush2,
    update_bind]
  obtain ⟨-, hdma, -, hcart⟩ := takeVector_same
    ((s.pushed 2 s.cpu.pc).withCpu { s.cpu with ime := false, imeSched := false, sp := s.cpu.sp - 2 })
    ((s.later 3).stored (s.cpu.sp - 1) (hiByte s.cpu.pc)).ie
  exact charge_ok 1 (chargeSafe_of hdma hcart hend)

/-- A dispatch that finds a source (R322, R324). -/
theorem dispatch_to {s : State} {i : Nat} (h : s.pushSafe) (h2 : s.storeSafe (s.cpu.sp - 2))
    (hi : lowestBit ((s.pushed 2 s.cpu.pc).iflag &&& ((s.later 3).stored (s.cpu.sp - 1) (hiByte s.cpu.pc)).ie)
      = some i) :
    dispatch s = .ok () ((({ s.pushed 2 s.cpu.pc with
        iflag := (s.pushed 2 s.cpu.pc).iflag &&& ~~~(1#5 <<< i) } : State).later 1).withCpu
      { s.cpu with ime := false, imeSched := false, sp := s.cpu.sp - 2, pc := vector i }) := by
  rw [dispatch_ok h h2, takeVector_some hi, later_withCpu]

/-- A dispatch that finds none is cancelled (R323). -/
theorem dispatch_cancelled {s : State} (h : s.pushSafe) (h2 : s.storeSafe (s.cpu.sp - 2))
    (hi : lowestBit ((s.pushed 2 s.cpu.pc).iflag &&& ((s.later 3).stored (s.cpu.sp - 1) (hiByte s.cpu.pc)).ie)
      = none) :
    dispatch s = .ok () (((s.pushed 2 s.cpu.pc).later 1).withCpu
      { s.cpu with ime := false, imeSched := false, sp := s.cpu.sp - 2, pc := 0x0000 }) := by
  rw [dispatch_ok h h2, takeVector_none hi, later_withCpu]

/-! ### Any dispatch that completes -/

theorem push8_cpu {s t : State} {v : Byte} {x : Unit} (e : push8 v s = .ok x t) :
    t.cpu = { s.cpu with sp := s.cpu.sp - 1 } :=
  (blind_memWrite (s.cpu.sp - 1) v).cpu_eq (show memWrite _ v (s.withCpu { s.cpu with sp := s.cpu.sp - 1 }) = _ from e)

theorem takeVector_cpu (s : State) (snap : BitVec 5) : ∃ pc, (s.takeVector snap).cpu = { s.cpu with pc := pc } := by
  unfold State.takeVector
  split <;> exact ⟨_, rfl⟩

/-- A dispatch changes the two flags, the stack pointer and `pc`, and nothing else of the CPU. -/
theorem dispatch_cpu {s u : State} {x : Unit} (e : dispatch s = .ok x u) :
    ∃ pc, u.cpu = { s.cpu with ime := false, imeSched := false, sp := s.cpu.sp - 1 - 1, pc := pc } := by
  obtain ⟨_, a, hcharge, e⟩ := bind_ok_iff.mp
    (show (charge 2 >>= _) (s.withCpu { s.cpu with ime := false, imeSched := false }) = .ok x u from e)
  obtain ⟨_, b, hpush1, e⟩ := bind_ok_iff.mp (show (push8 (hiByte a.cpu.pc) >>= _) a = .ok x u from e)
  obtain ⟨_, c, hpush2, e⟩ := bind_ok_iff.mp (show (push8 (loByte a.cpu.pc) >>= _) b = .ok x u from e)
  obtain ⟨pc, hpc⟩ := takeVector_cpu c b.ie
  refine ⟨pc, ?_⟩
  rw [(blind_ticks 4).cpu_eq (show ticks 4 (c.takeVector b.ie) = .ok x u from e), hpc, push8_cpu hpush2,
    push8_cpu hpush1, (blind_ticks 8).cpu_eq hcharge]
  rfl

/-- Every primitive of the machine leaves the host's events to the host's turn. -/
theorem sameHostInput_primitive : Primitive (fun s t => t.hostInput = s.hostInput) fun _ _ => True :=
  have trans : ∀ s t u : State, t.hostInput = s.hostInput → u.hostInput = t.hostInput → u.hostInput = s.hostInput :=
    fun _ _ _ h h' => h'.trans h
  have read : ∀ a, Op.Sat (fun s t => t.hostInput = s.hostInput) (fun _ _ => True) (busRead a) := fun a =>
    busRead_sat (R := fun s t => t.hostInput = s.hostInput) (fun _ => rfl) a (loaded_hostInput · a) fun _ _ =>
      trivial
  have write : ∀ a v, Op.Sat (fun s t => t.hostInput = s.hostInput) (fun _ _ => True) (busWrite a v) := fun a v =>
    busWrite_sat (R := fun s t => t.hostInput = s.hostInput) (fun _ => rfl) a v (stored_hostInput · a v) fun _ _ =>
      trivial
  { refl := fun _ => rfl
    trans := trans
    cpu := fun _ _ => rfl
    tick := tick_sat trans (fun _ => rfl) (dmaTick_sat (fun _ => rfl) trans (fun _ _ => rfl) read write) fun _ => rfl
    read := read
    write := write
    stop := fun _ _ => trivial
    illegal := fun _ _ _ _ => trivial }

theorem takeVector_hostInput (s : State) (snap : BitVec 5) : (s.takeVector snap).hostInput = s.hostInput := by
  unfold State.takeVector
  split <;> rfl

theorem dispatch_hostInput {s u : State} {x : Unit} (e : dispatch s = .ok x u) : u.hostInput = s.hostInput :=
  (sameHostInput_primitive.dispatch takeVector_hostInput s).1 x u e

/-! ### What a dispatch saves (R320, R321) -/

/-- A store to an address of the arrays can make no later access end the run. -/
theorem storeSafe_of_storage {s : State} {a : Addr} (h : isStorage a = true) : s.storeSafe a := by
  have hrange := isStorage_iff_range.mp h
  refine fun _ => ⟨by omega, fun ha => ?_⟩
  rw [ha] at hrange
  revert hrange
  decide

theorem accessSafe_of_storage {s : State} {a : Addr} (hs : s.chargeSafe) (h : isStorage a = true) : s.accessSafe a :=
  ⟨hs, fun _ => region_ne_extRam_of_storage h⟩

theorem chargeSafe_of_idle {s : State} (h : s.dma.active = false) : s.chargeSafe :=
  ⟨by simp [Dma.ok, h], fun _ ha => by rw [h] at ha; cases ha⟩

/-- With no transfer running, time passing leaves the arrays, the DMA machine and IE. -/
theorem later_idle {s : State} (n : Nat) (h : s.dma.active = false) :
    (s.later n).mem = s.mem ∧ (s.later n).dma = s.dma ∧ (s.later n).ie = s.ie :=
  have ht := later_ticked n (chargeSafe_of_idle h)
  ⟨(ht.idleDma h).1, (ht.idleDma h).2, ht.ie⟩

/-- A push to a stack in the arrays with no transfer running writes its two bytes and nothing else there. -/
theorem pushed_storage {s : State} (idle : Nat) (v : BitVec 16) (hd : s.dma.active = false)
    (h1 : isStorage (s.cpu.sp - 1) = true) (h2 : isStorage (s.cpu.sp - 2) = true) :
    (s.pushed idle v).mem = (s.mem.write (s.cpu.sp - 1).toNat (hiByte v)).write (s.cpu.sp - 2).toNat (loByte v) ∧
      (s.pushed idle v).dma = s.dma ∧ (s.pushed idle v).ie = s.ie := by
  obtain ⟨hmem, hdma, hie⟩ := later_idle (idle + 1) hd
  have hd' : ((s.later (idle + 1)).stored (s.cpu.sp - 1) (hiByte v)).dma.active = false := by
    rw [stored_storage _ h1]
    exact hdma ▸ hd
  obtain ⟨hmem', hdma', hie'⟩ := later_idle 1 hd'
  unfold State.pushed
  simp only []
  rw [stored_storage (loByte v) h2]
  simp only [hmem', hdma', hie']
  rw [stored_storage (hiByte v) h1]
  simp only [hmem, hdma, hie, and_self]

end Sys2Proof.Machine

open Sys2Proof.Machine in
/-- Settles O8: the phases go on from where the dispatch went, with `IME` and `ime_sched` clear, and so do those of a
step from there. -/
theorem dispatchComesFirst : Obligations.DispatchComesFirst := by
  unfold Obligations.DispatchComesFirst
  intro s u hhost hp hime hpend e
  have hwake := Cpu.wake_of_ime hime
  have hdue : (s.withCpu s.cpu.wake).dispatchDue = true := dispatchDue_eq_true (by rw [hwake]; exact hime) hpend
  obtain ⟨pc, hu⟩ := dispatch_cpu e
  have hrun : runningPhase s = fetchFirst (u.withCpu u.cpu.applyImeSched) :=
    runningPhase_of_due hdue (by rw [hwake]; exact e)
  have hwakeu : u.cpu.wake = u.cpu := Cpu.wake_of_not_halted (by rw [hu])
  have hrunu : runningPhase u = fetchFirst (u.withCpu u.cpu.applyImeSched) := by
    rw [runningPhase_of_not_due, hwakeu]
    rw [hwakeu]
    exact dispatchDue_eq_false (.inl (by rw [withCpu_cpu, hu]))
  have hphases : cpuStepPhases s = cpuStepPhases u := by
    rw [phases_running hp (.inr hpend), phases_running (by rw [hu]; exact hp) (.inl (by rw [hu]))]
    exact map_congr some (hrun.trans hrunu.symm)
  unfold step beginStep
  rw [hostTurn_nil hhost, hostTurn_nil ((dispatch_hostInput e).trans hhost), hphases]

open Sys2Proof.Machine in
/-- Settles O9: the dispatch is `dispatch_ok`, with the source its choice finds. -/
theorem dispatchProtocol : Obligations.DispatchProtocol := by
  unfold Obligations.DispatchProtocol
  intro s h h2 v ieSnap m
  exact ⟨fun i hi hbit hleast => dispatch_to h h2 (lowestBit_eq_some hi hbit hleast),
    fun hm => dispatch_cancelled h h2 (congrArg lowestBit hm)⟩

open Sys2Proof Sys2Proof.Machine in
/-- Settles O10: the pushes of `dispatch_ok` are two writes to the arrays, and the rest of the dispatch leaves the
arrays and IE. -/
theorem dispatchSavesPc : Obligations.DispatchSavesPc := by
  unfold Obligations.DispatchSavesPc
  intro s u hd h1 h2 e
  have hs := chargeSafe_of_idle hd
  have hclk := Op.Takes.dispatch s () u e
  rw [dispatch_ok ⟨accessSafe_of_storage hs h1, storeSafe_of_storage h1, accessSafe_of_storage hs h2⟩
    (storeSafe_of_storage h2)] at e
  obtain ⟨hmem, hdma, hie⟩ := pushed_storage 2 s.cpu.pc hd h1 h2
  injection e with _ hu
  have hvec := takeVector_same
    ((s.pushed 2 s.cpu.pc).withCpu { s.cpu with ime := false, imeSched := false, sp := s.cpu.sp - 2 })
    ((s.later 3).stored (s.cpu.sp - 1) (hiByte s.cpu.pc)).ie
  obtain ⟨hvecMem, hvecDma, hvecIe, -⟩ := hvec
  obtain ⟨hlastMem, -, hlastIe⟩ := later_idle 1 (by rw [hvecDma, withCpu_dma, hdma]; exact hd)
  rw [hu, hvecMem, withCpu_mem, hmem] at hlastMem
  rw [hu, hvecIe, withCpu_ie, hie] at hlastIe
  have hne : s.cpu.sp - 1 ≠ s.cpu.sp - 2 := by bv_omega
  have apart {a b : Addr} (h : a ≠ b) : a.toNat ≠ b.toNat := fun hab => h (BitVec.eq_of_toNat_eq hab)
  refine ⟨?_, ?_, fun a ha hne1 hne2 => ?_, hclk, hlastIe⟩
  · rw [peek_storage h1, hlastMem, Memory.read_write_other _ _ (apart hne), Memory.read_write_same]
  · rw [peek_storage h2, hlastMem, Memory.read_write_same]
  · rw [peek_storage ha, peek_storage ha, hlastMem, Memory.read_write_other _ _ (apart hne2),
      Memory.read_write_other _ _ (apart hne1)]

end

section
/-! Accesses to RAM the cartridge does not have: the first access of an instruction's meaning ends the run after its
machine cycle (R332), and with the latch clear an access there is inert (R489). -/

namespace Sys2Proof.Machine

section FirstAccess

variable {s : State} (hm : s.cart.ramMissing = true) (hd : s.dma.active = false)
include hm hd

theorem read_noRam {a : Addr} (ha : region a = .extRam) : memRead a s = .error (.configError .noRam) (s.later 1) :=
  memRead_error (chargeSafe_of_idle hd) hm ha

theorem write_noRam {a : Addr} (v : Byte) (ha : region a = .extRam) :
    memWrite a v s = .error (.configError .noRam) (s.later 1) :=
  memWrite_error v (chargeSafe_of_idle hd) hm ha

theorem loadA_noRam {a : Addr} (ha : region a = .extRam) : loadA a s = .error (.configError .noRam) (s.later 1) :=
  bind_of_error (read_noRam hm hd ha)

theorem storeA_noRam {a : Addr} (ha : region a = .extRam) : storeA a s = .error (.configError .noRam) (s.later 1) :=
  write_noRam hm hd s.cpu.a ha

theorem pop16_noRam (ha : region s.cpu.sp = .extRam) : pop16 s = .error (.configError .noRam) (s.later 1) :=
  bind_of_error ((look_bind _ _ s).trans (bind_of_error (read_noRam hm hd ha)))

theorem returnOp_noRam (ha : region s.cpu.sp = .extRam) : returnOp s = .error (.configError .noRam) (s.later 1) :=
  bind_of_error (pop16_noRam hm hd ha)

/-- A push's first access is its store below the stack pointer, which it has moved by then. -/
theorem push16_noRam (v : BitVec 16) (ha : region (s.cpu.sp - 1) = .extRam) :
    push16 v s = .error (.configError .noRam) ((s.later 1).withCpu { s.cpu with sp := s.cpu.sp - 1 }) := by
  have hw := write_noRam (s := s.withCpu { s.cpu with sp := s.cpu.sp - 1 }) hm hd (hiByte v) ha
  rw [later_withCpu] at hw
  exact bind_of_error hw

/-- A push after an internal cycle. -/
theorem later_push16_noRam (v : BitVec 16) (ha : region (s.cpu.sp - 1) = .extRam) :
    push16 v (s.later 1) =
      .error (.configError .noRam) { s.later 2 with cpu := { s.cpu with sp := s.cpu.sp - 1 } } := by
  have hs := chargeSafe_of_idle hd
  have hp := push16_noRam (s := s.later 1) (by rw [later_cart 1 hs]; exact hm)
    (by rw [(later_idle 1 hd).2.1]; exact hd) v (by rw [later_cpu 1 hs]; exact ha)
  rwa [later_later 1 1 hs, later_cpu 1 hs] at hp

theorem pushPair_noRam (p : StackPair) (ha : region (s.cpu.sp - 1) = .extRam) :
    pushPair p s = .error (.configError .noRam) { s.later 2 with cpu := { s.cpu with sp := s.cpu.sp - 1 } } := by
  unfold pushPair
  rw [bind_of_ok (internal_ok (chargeSafe_of_idle hd)), look_bind]
  exact later_push16_noRam hm hd _ ha

theorem callOp_noRam (target : Addr) (ha : region (s.cpu.sp - 1) = .extRam) :
    callOp target s = .error (.configError .noRam) { s.later 2 with cpu := { s.cpu with sp := s.cpu.sp - 1 } } := by
  unfold callOp
  rw [bind_of_ok (internal_ok (chargeSafe_of_idle hd)), look_bind]
  exact bind_of_error (later_push16_noRam hm hd _ ha)

/-- The forms whose first access is at HL. -/
theorem atHl_noRam {f : Form} (ha : region s.cpu.hl = .extRam)
    (h : (∃ r, f = .ldRegMem r ∨ f = .ldMemReg r) ∨ (∃ n, f = .ldMemImm n) ∨
      (∃ k, f = .loadAStep k ∨ f = .storeAStep k) ∨ (∃ op, f = .alu op .memHl) ∨ f = .inc8 .memHl ∨
      f = .dec8 .memHl ∨ (∃ op, f = .rot op .memHl) ∨
      (∃ b, f = .bit b .memHl ∨ f = .res b .memHl ∨ f = .set b .memHl)) :
    formOp f s = .error (.configError .noRam) (s.later 1) := by
  have reads {k : Byte → Op Unit} : (memRead s.cpu.hl >>= k) s = .error (.configError .noRam) (s.later 1) :=
    bind_of_error (read_noRam hm hd ha)
  rcases h with ⟨r, rfl | rfl⟩ | ⟨n, rfl⟩ | ⟨k, rfl | rfl⟩ | ⟨op, rfl⟩ | rfl | rfl | ⟨op, rfl⟩ | ⟨b, rfl | rfl | rfl⟩
  case inl.inr => exact write_noRam hm hd _ ha
  case inr.inl => exact write_noRam hm hd _ ha
  case inr.inr.inl.inl => exact (look_bind _ _ s).trans (bind_of_error (loadA_noRam hm hd ha))
  case inr.inr.inl.inr => exact (look_bind _ _ s).trans (bind_of_error (storeA_noRam hm hd ha))
  all_goals exact reads

end FirstAccess

/-- With the latch clear the window reads the sentinel and drops writes (R489). -/
theorem readRam_of_disabled {c : Cart} (h : c.ramEn = false) (sentinel : Byte) (a : Addr) :
    c.readRam sentinel a = sentinel := by
  simp [Cart.readRam, Cart.ramUsable, h]

theorem writeRam_of_disabled {c : Cart} (h : c.ramEn = false) (a : Addr) (v : Byte) : c.writeRam a v = c := by
  simp [Cart.writeRam, Cart.ramUsable, h]

theorem ramMissing_of_disabled {c : Cart} (h : c.ramEn = false) : c.ramMissing = false := by
  simp [Cart.ramMissing, h]

end Sys2Proof.Machine

open Sys2Proof.Machine in
/-- Settles O24: each form's operation begins with the access, and what the access raises ends it. -/
theorem noRamFault : Obligations.NoRamFault := by
  unfold Obligations.NoRamFault
  refine fun i s => ⟨fun hm hd => ⟨?_, fun ha hform => ?_, fun nn hform ha => ?_,
    fun ha => ⟨?_, fun cc hform hcc => ?_⟩, fun ha hform => ?_⟩, fun a v hb hen ha => ?_⟩
  · rintro x (hform | hform) ha
    · exact exec_error_of_form hform ((formOp_loadA x s).trans (loadA_noRam hm hd ha))
    · exact exec_error_of_form hform ((formOp_storeA x s).trans (storeA_noRam hm hd ha))
  · exact exec_error_of_form rfl (atHl_noRam hm hd ha hform)
  · exact exec_error_of_form hform ((look_bind _ _ s).trans (bind_of_error (write_noRam hm hd _ ha)))
  · rintro (⟨p, hform⟩ | hform | hform)
    · exact exec_error_of_form hform (bind_of_error (pop16_noRam hm hd ha))
    · exact exec_error_of_form hform (returnOp_noRam hm hd ha)
    · exact exec_error_of_form hform (bind_of_error (returnOp_noRam hm hd ha))
  · have hs := chargeSafe_of_idle hd
    have hpop := returnOp_noRam (s := s.later 1) (by rw [later_cart 1 hs]; exact hm)
      (by rw [(later_idle 1 hd).2.1]; exact hd) (by rw [later_cpu 1 hs]; exact ha)
    rw [later_later 1 1 hs] at hpop
    exact exec_error_of_form hform ((bind_of_ok (internal_ok hs)).trans
      ((whenCond_true _ (by rw [later_cpu 1 hs]; exact hcc)).trans hpop))
  · rcases hform with ⟨p, hform⟩ | ⟨nn, hform⟩ | ⟨cc, nn, hform, hcc⟩ | ⟨y, hform⟩
    · exact exec_error_of_form hform (pushPair_noRam hm hd p ha)
    · exact exec_error_of_form hform (callOp_noRam hm hd nn ha)
    · exact exec_error_of_form hform ((whenCond_true _ hcc).trans (callOp_noRam hm hd nn ha))
    · exact exec_error_of_form hform (callOp_noRam hm hd _ ha)
  · simp only [busRead, busWrite, ha, ramMissing_of_disabled hen, readRam_of_disabled hen, writeRam_of_disabled hen]
    exact ⟨rfl, rfl⟩

end

section
/-! The cost of an instruction: the bytes fetched for it and the cycles its meaning charges (R521). -/

namespace Sys2Proof.Machine

theorem fetches_eq (i : Instr) :
    (if i.isSecondTable then 2 else (fetchedBytes i).length) = Laws.fetches i.form := by
  cases i <;> rfl

/-- No form costs less than its fetches. -/
theorem fetches_le_cost (f : Form) (taken : Bool) : Laws.fetches f ≤ f.cost taken := by
  cases f with
  | loadA x | storeA x => cases x <;> simp [Laws.fetches, Form.cost]
  | alu op x => cases x <;> simp [Laws.fetches, Form.cost]
  | inc8 x | dec8 x | rot _ x | bit _ x | res _ x | set _ x => cases x <;> simp [Laws.fetches, Form.cost]
  | jpCond | jrCond | callCond | retCond => cases taken <;> simp [Laws.fetches, Form.cost]
  | _ => simp [Laws.fetches, Form.cost]

end Sys2Proof.Machine

open Sys2Proof.Machine in
/-- Settles O17: the meaning charges what the cost leaves after the fetches. -/
theorem cycleCost : Obligations.CycleCost := by
  unfold Obligations.CycleCost
  intro i s t e
  rw [fetches_eq, exec_clk e, Nat.add_assoc, ← Nat.mul_add, Nat.sub_add_cancel (fetches_le_cost _ _)]

end

section
/-! The timer: one tick, a write to each register, and the reload after an overflow (R341 to R352). -/

namespace Sys2Proof.Machine

/-! ### The AND result and its falling edge (R342 to R345) -/

/-- The divider bit watched under a rate. -/
def watchedBit : Nat → Nat
  | 0 => 9
  | 1 => 3
  | 2 => 5
  | _ => 7

theorem timerSel_eq (tac : BitVec 3) : timerSel (tac.extractLsb' 0 2) = watchedBit (tac.toNat % 4) := by
  revert tac
  decide

/-- The AND result were the divider `d`. -/
def Timer.andAt (t : Timer) (d : BitVec 16) : Bool := t.tac.getLsbD 2 && d.getLsbD (watchedBit (t.tac.toNat % 4))

theorem Timer.andNow_eq (t : Timer) : t.andNow = t.andAt t.div := by
  unfold Timer.andNow Timer.andAt
  rw [timerSel_eq]

theorem Timer.detectEdge_of_fall {t : Timer} (h : t.prevAnd = true) (hnow : t.andNow = false) :
    t.detectEdge =
      if t.tima = 0xFF then { t with prevAnd := false, tima := 0x00, tstate := .pending, tcycles := 0 }
      else { t with prevAnd := false, tima := t.tima + 1 } := by
  unfold Timer.detectEdge Timer.incTima
  simp only [h, hnow, Bool.not_false, Bool.and_self, if_true]
  split <;> rfl

theorem Timer.detectEdge_of_no_fall {t : Timer} (h : t.prevAnd = true → t.andNow = true) :
    t.detectEdge = { t with prevAnd := t.andNow } := by
  unfold Timer.detectEdge
  cases hp : t.prevAnd
  · rfl
  · simp [h hp]

theorem Timer.detectEdge_eq (t : Timer) :
    t.detectEdge =
      if t.prevAnd && !t.andNow then
        if t.tima = 0xFF then { t with prevAnd := t.andNow, tima := 0x00, tstate := .pending, tcycles := 0 }
        else { t with prevAnd := t.andNow, tima := t.tima + 1 }
      else { t with prevAnd := t.andNow } := by
  cases hp : t.prevAnd <;> cases hn : t.andNow
  case true.false => rw [Timer.detectEdge_of_fall hp hn]; rfl
  all_goals rw [Timer.detectEdge_of_no_fall (by simp [hp, hn]), hn]; rfl

/-- Edge detection leaves what it looks at. -/
theorem Timer.detectEdge_and (t : Timer) : t.detectEdge.andNow = t.andNow := by
  rw [t.detectEdge_eq]
  repeat' split
  all_goals rfl

theorem Timer.tick_of_not_pending {t : Timer} (h : t.tstate ≠ .pending) :
    t.tick = (({ t with div := t.div + 1 } : Timer).detectEdge, false) := by
  unfold Timer.tick Timer.pendingTick
  rw [if_neg h]

/-! ### The watched bit after a rise or from a multiple of 16 -/

/-- A watched bit that is clear, or a divider at a multiple of 16, leaves no room for a fall in the next five ticks. -/
theorem getLsbD_watched_stays {d : BitVec 16} {b n : Nat} (hb : b = 3 ∨ b = 5 ∨ b = 7 ∨ b = 9) (hn : n ≤ 4)
    (h : d.getLsbD b = false ∨ d.toNat % 16 = 0) (hset : (d + BitVec.ofNat 16 n).getLsbD b = true) :
    (d + BitVec.ofNat 16 (n + 1)).getLsbD b = true := by
  simp only [BitVec.getLsbD, Nat.testBit_eq_decide_div_mod_eq, BitVec.toNat_add, BitVec.toNat_ofNat,
    decide_eq_true_eq, decide_eq_false_iff_not] at h hset ⊢
  have hd := d.isLt
  rcases hb with rfl | rfl | rfl | rfl <;> norm_num at h hset hd ⊢ <;> omega

theorem watchedBit_cases (r : Nat) : watchedBit r = 3 ∨ watchedBit r = 5 ∨ watchedBit r = 7 ∨ watchedBit r = 9 := by
  unfold watchedBit
  split <;> decide

theorem Timer.andAt_stays {t : Timer} {n : Nat} (hn : n ≤ 4) (h : t.andAt t.div = false ∨ t.div.toNat % 16 = 0)
    (hset : t.andAt (t.div + BitVec.ofNat 16 n) = true) : t.andAt (t.div + BitVec.ofNat 16 (n + 1)) = true := by
  unfold Timer.andAt at *
  obtain ⟨hen, hbit⟩ := Bool.and_eq_true_iff.mp hset
  rw [hen, Bool.true_and] at h
  rw [hen, getLsbD_watched_stays (watchedBit_cases _) hn h hbit, Bool.true_and]

/-! ### The pending interval (R346, R347) -/

/-- `u` is what `n` ticks of the pending interval have made of `t`, the reload apart. -/
structure Timer.Waits (t u : Timer) (n : Nat) : Prop where
  pending : u.tstate = .pending
  tcycles : u.tcycles = n
  div : u.div = t.div + BitVec.ofNat 16 n
  tac : u.tac = t.tac
  noFall : u.prevAnd = true → t.andAt (t.div + BitVec.ofNat 16 n) = true

/-- A tick of the pending interval is its bookkeeping, for the AND result does not fall. -/
theorem Timer.Waits.tick_eq {t u : Timer} {n : Nat} (h : t.Waits u n) (hn : n ≤ 4)
    (hstart : t.andAt t.div = false ∨ t.div.toNat % 16 = 0) :
    u.tick = ({ u.pendingTick.1 with
      div := t.div + BitVec.ofNat 16 (n + 1), prevAnd := t.andAt (t.div + BitVec.ofNat 16 (n + 1)) },
      u.pendingTick.2) := by
  obtain ⟨hpending, htcycles, hdiv, htac, hfall⟩ := h
  have hkeep : u.pendingTick.1.div = u.div ∧ u.pendingTick.1.tac = u.tac ∧ u.pendingTick.1.prevAnd = u.prevAnd := by
    unfold Timer.pendingTick
    simp only []
    repeat' split
    all_goals exact ⟨rfl, rfl, rfl⟩
  obtain ⟨hkdiv, hktac, hkprev⟩ := hkeep
  have hnext : u.pendingTick.1.div + 1 = t.div + BitVec.ofNat 16 (n + 1) := by
    rw [hkdiv, hdiv, BitVec.ofNat_add, ← BitVec.add_assoc]
    rfl
  have hand : ({ u.pendingTick.1 with div := t.div + BitVec.ofNat 16 (n + 1) } : Timer).andNow =
      t.andAt (t.div + BitVec.ofNat 16 (n + 1)) := by
    rw [Timer.andNow_eq]
    unfold Timer.andAt
    simp only [hktac, htac]
  unfold Timer.tick
  simp only [hnext]
  rw [Timer.detectEdge_of_no_fall, hand]
  intro hprev
  rw [hand]
  exact Timer.andAt_stays hn hstart (hfall (hkprev ▸ hprev))

section Pending

variable {t u : Timer} {n : Nat} (hstart : t.andAt t.div = false ∨ t.div.toNat % 16 = 0)
include hstart

/-- The first three ticks count. -/
theorem Timer.Waits.count (h : t.Waits u n) (hn : n < 3) :
    t.Waits u.tick.1 (n + 1) ∧ u.tick.1.tima = u.tima ∧ u.tick.2 = false := by
  have hp : u.pendingTick = ({ u with tcycles := n + 1 }, false) := by
    unfold Timer.pendingTick
    simp [h.pending, h.tcycles, show n ≠ 3 by omega, show n ≠ 4 by omega]
  rw [h.tick_eq (by omega) hstart, hp]
  exact ⟨⟨h.pending, rfl, rfl, h.tac, id⟩, rfl, rfl⟩

/-- The fourth reloads and requests. -/
theorem Timer.Waits.reload (h : t.Waits u 3) :
    t.Waits u.tick.1 4 ∧ u.tick.1.tima = u.tma ∧ u.tick.2 = true := by
  have hp : u.pendingTick = ({ u with tcycles := 4, tima := u.tma }, true) := by
    unfold Timer.pendingTick
    simp [h.pending, h.tcycles]
  rw [h.tick_eq (by omega) hstart, hp]
  exact ⟨⟨h.pending, rfl, rfl, h.tac, id⟩, rfl, rfl⟩

/-- The fifth ends the interval. -/
theorem Timer.Waits.finish (h : t.Waits u 4) :
    u.tick.1.tima = u.tima ∧ u.tick.2 = false ∧ u.tick.1.tstate = .normal ∧ u.tick.1.tcycles = 0 ∧
      u.tick.1.div = t.div + 5 := by
  have hp : u.pendingTick = ({ u with tcycles := 0, tstate := .normal }, false) := by
    unfold Timer.pendingTick
    simp [h.pending, h.tcycles]
  rw [h.tick_eq (by omega) hstart, hp]
  exact ⟨rfl, rfl, rfl, rfl, rfl⟩

end Pending

/-- An overflow on a falling edge. -/
theorem Timer.detectEdge_overflow {t : Timer} (htima : t.tima = 0xFF) (h : t.prevAnd = true)
    (hnow : t.detectEdge.andNow = false) :
    t.detectEdge.tima = 0x00 ∧ t.detectEdge.tstate = .pending ∧ t.detectEdge.tcycles = 0 ∧
      t.detectEdge.prevAnd = false := by
  rw [Timer.detectEdge_and] at hnow
  rw [Timer.detectEdge_of_fall h hnow, if_pos htima]
  exact ⟨rfl, rfl, rfl, rfl⟩

end Sys2Proof.Machine

open Sys2Proof.Machine in
/-- Settles O47: the tick is the divider's count and the edge detection, whose cases `detectEdge_eq` lists. -/
theorem timerTick : Obligations.TimerTick := by
  unfold Obligations.TimerTick
  intro t h sel now
  have hnow : ({ t with div := t.div + 1 } : Timer).andNow = now := Timer.andNow_eq _
  rw [Timer.tick_of_not_pending h, Timer.detectEdge_eq, hnow]

open Sys2Proof.Machine in
/-- Settles O48: an overflow is a falling edge, and from it the five ticks are `Waits.count`, `reload` and `finish`. -/
theorem timerReload : Obligations.TimerReload := by
  unfold Obligations.TimerReload
  intro t watched
  have hwatched : watched t = t.andAt t.div := rfl
  rw [hwatched]
  refine ⟨fun u htima hprev hmade hnow => ?_, fun hp hc hprev hstart => ?_⟩
  · rw [← Timer.andNow_eq] at hnow
    obtain ⟨hnp, rfl⟩ | ⟨v, rfl⟩ := hmade
    · rw [Timer.tick_of_not_pending hnp] at hnow ⊢
      exact Timer.detectEdge_overflow (t := { u with div := u.div + 1 }) htima hprev hnow
    · exact Timer.detectEdge_overflow (t := { u with tac := v.extractLsb' 0 3 }) htima hprev hnow
  · dsimp only
    have w0 : t.Waits t 0 := ⟨hp, hc, (BitVec.add_zero _).symm, rfl, by simp [hprev]⟩
    obtain ⟨w1, htima1, hreq1⟩ := w0.count hstart (by decide)
    obtain ⟨w2, htima2, hreq2⟩ := w1.count hstart (by decide)
    obtain ⟨w3, htima3, hreq3⟩ := w2.count hstart (by decide)
    obtain ⟨w4, htima4, hreq4⟩ := w3.reload hstart
    obtain ⟨htima5, hreq5, hnormal, hzero, hdiv⟩ := w4.finish hstart
    have htma : t.tick.1.tick.1.tick.1.tma = t.tma := by simp only [(Timer.tick_registers _).1]
    have htma4 := htima4.trans htma
    refine ⟨htima1, htima2.trans htima1, htima3.trans (htima2.trans htima1), htma4, htima5.trans htma4, ?_,
      w4.pending, w4.tcycles, hnormal, hzero, hdiv, fun v => ?_⟩
    · exact congrArg₂ _ hreq1 (congrArg₂ _ hreq2 (congrArg₂ _ hreq3 (congrArg₂ _ hreq4 (congrArg₂ _ hreq5 rfl))))
    · have w3' : t.Waits { t.tick.1.tick.1.tick.1 with tma := v } 3 := { w3 with }
      exact (w3'.reload hstart).2

end

section
/-! The I/O page: what each of its addresses reads and what a write there does (R37, R43, R49, R52, R348 to R352, R461,
R472 to R475). -/

namespace Sys2Proof.Machine

/-! ### The map of the page (R52) -/

/-- The addresses of the page that have a register whatever the parameters. -/
def alwaysMapped : List Addr :=
  [0xFF00, 0xFF04, 0xFF05, 0xFF06, 0xFF07, 0xFF0F, 0xFF40, 0xFF41, 0xFF42, 0xFF43, 0xFF44, 0xFF45, 0xFF46, 0xFF47,
    0xFF48, 0xFF49, 0xFF4A, 0xFF4B]

theorem mem_of_lookup {n : Nat} {r : IoReg} (h : ioTable.lookup n = some r) : (n, r) ∈ ioTable := by
  obtain ⟨before, after, htable, -⟩ := List.lookup_eq_some_iff.mp h
  rw [htable]
  exact List.mem_append_right _ (List.mem_cons_self ..)

theorem ioReg_eq_none {p : Params} {a : Addr} (h : a ∉ alwaysMapped) (hlow : a = 0xFF03 → p.divLoMapped = false)
    (hstub : p.audioStubAddr ≠ some a) : ioReg p a = none := by
  have entries : ∀ q ∈ ioTable, BitVec.ofNat 16 q.1 ∈ alwaysMapped ∨ q = (0xFF03, .divLow) := by decide
  unfold ioReg ioReg.stub
  rw [if_neg hstub]
  cases hl : ioTable.lookup a.toNat with
  | none => rfl
  | some r =>
    obtain hmem | hdiv := entries _ (mem_of_lookup hl)
    · exact absurd (by simpa using hmem) h
    · obtain ⟨ha, rfl⟩ := Prod.mk.inj hdiv
      simp [hlow (BitVec.eq_of_toNat_eq ha)]

theorem ioReg_divLow {p : Params} (h : p.divLoMapped = true) : ioReg p 0xFF03 = some .divLow := by
  unfold ioReg
  simp [ioTable, List.lookup, h]

theorem busRead_io {s : State} {a : Addr} {r : IoReg} (ha : region a = .io) (h : ioReg s.params a = some r) :
    busRead a s = .ok (s.ioValue r) (s.ioReadEffect r) := by
  simp only [busRead, ha, h]

theorem busWrite_io {s : State} {a : Addr} {r : IoReg} (v : Byte) (ha : region a = .io)
    (h : ioReg s.params a = some r) : busWrite a v s = .ok () (s.ioWrite r v) := by
  simp only [busWrite, ha, h]

/-! ### The bits of the registers -/

theorem Joypad.readByte_eq (p : Joypad) :
    p.readByte = 0xC0#8 ||| (p.sel.setWidth 8 <<< 4) ||| p.low.setWidth 8 := by
  have h : ∀ (sel : BitVec 2) (low : BitVec 4),
      0b11#2 ++ sel ++ low = 0xC0#8 ||| (sel.setWidth 8 <<< 4) ||| low.setWidth 8 := by decide
  exact h p.sel p.low

/-- A line is low exactly when a selected group has its button pressed (R472). -/
theorem Joypad.line_eq_false (p : Joypad) (x y : Bool) :
    p.line x y = false ↔ (p.sel.getLsbD 0 = false ∧ x = true) ∨ (p.sel.getLsbD 1 = false ∧ y = true) := by
  simp only [Joypad.line, Bool.and_eq_false_iff, Bool.or_eq_false_iff, Bool.not_eq_false']

theorem nibble_getLsbD : ∀ b3 b2 b1 b0, (nibble b3 b2 b1 b0).getLsbD 0 = b0 ∧ (nibble b3 b2 b1 b0).getLsbD 1 = b1 ∧
    (nibble b3 b2 b1 b0).getLsbD 2 = b2 ∧ (nibble b3 b2 b1 b0).getLsbD 3 = b3 := by decide

theorem Timer.readTac_eq (t : Timer) : t.readTac = 0xF8#8 ||| t.tac.setWidth 8 := by
  have h : ∀ tac : BitVec 3, 0b11111#5 ++ tac = 0xF8#8 ||| tac.setWidth 8 := by decide
  exact h t.tac

theorem requests_eq (r : BitVec 5) : 0b111#3 ++ r = 0xE0#8 ||| r.setWidth 8 := by
  revert r
  decide

theorem Display.readStat_eq (d : Display) :
    d.readStat = 0x80#8 ||| (d.statEn.setWidth 8 <<< 3) ||| (if d.ly = d.lyc then 4 else 0) |||
      d.mode.bits.setWidth 8 := by
  have h : ∀ (en : BitVec 4) (eq : Bool) (mode : BitVec 2), 1#1 ++ en ++ BitVec.ofBool eq ++ mode =
      0x80#8 ||| (en.setWidth 8 <<< 3) ||| (if eq = true then 4 else 0) ||| mode.setWidth 8 := by decide
  rw [Display.readStat, h]
  simp only [decide_eq_true_eq]

theorem hiByte_eq (v : BitVec 16) : hiByte v = (v >>> 8).setWidth 8 := by
  unfold hiByte
  ext i hi
  simp [BitVec.getElem_setWidth]

theorem loByte_eq (v : BitVec 16) : loByte v = v.setWidth 8 := (BitVec.setWidth_eq_extractLsb' (by decide)).symm

end Sys2Proof.Machine

open Sys2Proof Sys2Proof.Machine in
/-- Settles O22: each address has its register in the map, or none, and each register's value is its bits. -/
theorem ioReads : Obligations.IoReads := by
  unfold Obligations.IoReads
  intro s
  refine ⟨?_, fun h => ?_, ?_, rfl, rfl, ?_, ?_, rfl, ?_, rfl, rfl, rfl, rfl, rfl, rfl, rfl, rfl, rfl, rfl,
    fun a h h' ha hlow hstub => ?_⟩
  · rw [← Joypad.readByte_eq]; rfl
  · rw [← loByte_eq, busRead_io rfl (ioReg_divLow h)]; rfl
  · rw [← hiByte_eq]; rfl
  · rw [← Timer.readTac_eq]; rfl
  · rw [← requests_eq]; rfl
  · rw [← Display.readStat_eq]; rfl
  · have hnone : ioReg s.params a = none := ioReg_eq_none ha hlow hstub
    have hio := region_io.mpr ⟨h, h'⟩
    simp only [busRead, busWrite, hio, hnone, implies_true, and_self]

open Sys2Proof.Machine in
/-- Settles O23: each address's register in the map, written. -/
theorem ioWrites : Obligations.IoWrites := by
  unfold Obligations.IoWrites
  intro s v
  have sel : v.extractLsb' 4 2 = (v >>> 4).setWidth 2 := by revert v; decide
  have requests : v.extractLsb' 0 5 = v.setWidth 5 := (BitVec.setWidth_eq_extractLsb' (by decide)).symm
  have enables : v.extractLsb' 3 4 = (v >>> 3).setWidth 4 := by revert v; decide
  rw [← sel, ← requests, ← enables]
  exact ⟨rfl, rfl, rfl, rfl, rfl, rfl, rfl, rfl, rfl, rfl, rfl, rfl, rfl⟩

open Sys2Proof.Machine in
/-- Settles O49: each write's effect; that to TAC is an edge detection, whose cases `detectEdge_eq` lists. -/
theorem timerWrites : Obligations.TimerWrites := by
  unfold Obligations.TimerWrites
  intro s v t
  refine ⟨rfl, fun h => ?_, rfl, rfl, ?_⟩
  · rw [busWrite_io v rfl (ioReg_divLow h)]; rfl
  · intro sel now
    have htac : v.extractLsb' 0 3 = v.setWidth 3 := (BitVec.setWidth_eq_extractLsb' (by decide)).symm
    have hrate : (v.setWidth 3).toNat % 4 = v.toNat % 4 := by
      rw [BitVec.toNat_setWidth]
      omega
    have hnow : ({ t with tac := v.setWidth 3 } : Timer).andNow = now := by
      rw [Timer.andNow_eq]
      unfold Timer.andAt
      rw [hrate, BitVec.getLsbD_setWidth]
      rfl
    have hwrite : t.writeTac v = ({ t with tac := v.setWidth 3 } : Timer).detectEdge := congrArg
      (fun x => ({ t with tac := x } : Timer).detectEdge) htac
    rw [Timer.detectEdge_eq, hnow] at hwrite
    rw [← hwrite]
    rfl

open Sys2Proof.Machine in
/-- Settles O60: a line is a bit of the nibble, the poll as `poll_eq` writes it. -/
theorem inputRegister : Obligations.InputRegister := by
  unfold Obligations.InputRegister
  intro s p b dir aux
  obtain ⟨h0, h1, h2, h3⟩ := nibble_getLsbD (p.line b.down b.start) (p.line b.up b.select) (p.line b.left b.b)
    (p.line b.right b.a)
  refine ⟨?_, ?_, ?_, ?_, ?_, rfl⟩
  · rw [← p.line_eq_false, ← h0]; rfl
  · rw [← p.line_eq_false, ← h1]; rfl
  · rw [← p.line_eq_false, ← h2]; rfl
  · rw [← p.line_eq_false, ← h3]; rfl
  · rw [State.poll_eq]
    by_cases h : s.joypad.prev &&& ~~~s.joypad.low = 0
    · rw [if_pos h, if_pos h, show s.iflag ||| 0 = s.iflag from BitVec.or_zero]
    · rw [if_neg h, if_neg h]

end

section
/-! The cartridge's windows and registers (R481, R484 to R489). -/

namespace Sys2Proof.Machine

section Windows

variable {c : Cart} {a : Addr}

theorem readRom_noMapper (h : c.mapper = .noMapper) : c.readRom a = c.rom.read a.toNat := by
  simp only [Cart.readRom, Cart.romOffset, h]

theorem readRom_low (h : c.mapper = .banked) (ha : a.toNat < 0x4000) :
    c.readRom a = c.rom.read ((if c.bmode then c.bank2.toNat * 32 % c.nbanks else 0) * 16384 + a.toNat) := by
  simp only [Cart.readRom, Cart.romOffset, Cart.romBank, h, ha, if_true, Nat.mod_eq_of_lt ha]

theorem readRom_high (h : c.mapper = .banked) (ha : 0x4000 ≤ a.toNat) (ha' : a.toNat < 0x8000) :
    c.readRom a =
      c.rom.read ((c.bank2.toNat * 32 + c.bank1.toNat) % c.nbanks * 16384 + (a.toNat - 0x4000)) := by
  simp only [Cart.readRom, Cart.romOffset, Cart.romBank, h, Nat.not_lt.mpr ha, if_false,
    show a.toNat % 16384 = a.toNat - 0x4000 by omega]

/-- What a write to each register window of the banked variant stores (R485 to R488). -/
theorem writeRom_latch (v : Byte) (h : c.mapper = .banked) (ha : a.toNat < 0x2000) :
    c.writeRom a v = { c with ramEn := decide (v &&& 0x0F = 0x0A) } := by
  have bits : ∀ v : Byte, decide (v.extractLsb' 0 4 = 0xA) = decide (v &&& 0x0F = 0x0A) := by decide
  simp only [Cart.writeRom, h, ha, if_true, bits]

theorem writeRom_bank1 (v : Byte) (h : c.mapper = .banked) (ha : 0x2000 ≤ a.toNat) (ha' : a.toNat < 0x4000) :
    c.writeRom a v = { c with bank1 := if v &&& 0x1F = 0 then 1 else v.setWidth 5 } := by
  have bits : ∀ v : Byte, (if v.extractLsb' 0 5 = 0 then 1 else v.extractLsb' 0 5) =
      (if v &&& 0x1F = 0 then 1 else v.setWidth 5) := by decide
  simp only [Cart.writeRom, h, Nat.not_lt.mpr ha, ha', if_false, if_true, bits]

theorem writeRom_bank2 (v : Byte) (h : c.mapper = .banked) (ha : 0x4000 ≤ a.toNat) (ha' : a.toNat < 0x6000) :
    c.writeRom a v = { c with bank2 := v.setWidth 2 } := by
  have bits : v.extractLsb' 0 2 = v.setWidth 2 := (BitVec.setWidth_eq_extractLsb' (by decide)).symm
  simp only [Cart.writeRom, h, show ¬ a.toNat < 0x2000 by omega, Nat.not_lt.mpr ha, ha', if_false, if_true, bits]

theorem writeRom_mode (v : Byte) (h : c.mapper = .banked) (ha : 0x6000 ≤ a.toNat) :
    c.writeRom a v = { c with bmode := v.getLsbD 0 } := by
  simp only [Cart.writeRom, h, show ¬ a.toNat < 0x2000 by omega, show ¬ a.toNat < 0x4000 by omega,
    Nat.not_lt.mpr ha, if_false]

theorem ramUsable_noMapper (h : c.mapper = .noMapper) : c.ramUsable = false := by simp [Cart.ramUsable, h]

theorem ramUsable_enabled (h : c.mapper = .banked) (hen : c.ramEn = true) (hsize : c.ramSize ≠ 0) :
    c.ramUsable = true := by
  simp [Cart.ramUsable, h, hen, hsize]

/-- The RAM window of a cartridge whose RAM is usable is its RAM. -/
theorem readRam_usable (sentinel : Byte) (h : c.ramUsable = true) :
    c.readRam sentinel a = c.ram.read (c.ramOffset a) := by
  simp only [Cart.readRam, h, if_true]

theorem writeRam_usable (v : Byte) (h : c.ramUsable = true) :
    c.writeRam a v = { c with ram := c.ram.write (c.ramOffset a) v } := by
  simp only [Cart.writeRam, h, if_true]

theorem readRam_writeRam (sentinel v : Byte) (h : c.ramUsable = true) : (c.writeRam a v).readRam sentinel a = v := by
  rw [writeRam_usable v h, readRam_usable sentinel (c := { c with ram := c.ram.write (c.ramOffset a) v }) h]
  exact Memory.read_write_same _ _ _

end Windows

end Sys2Proof.Machine

open Sys2Proof.Machine in
/-- Settles O59: one lemma for each window. -/
theorem cartridgeBanks : Obligations.CartridgeBanks := by
  unfold Obligations.CartridgeBanks
  intro c a v sentinel n
  refine ⟨fun h _ => ⟨readRom_noMapper h, by simp only [Cart.writeRom, h]⟩, fun h => ?_, fun h => ⟨readRom_low h,
    readRom_high h, writeRom_latch v h, writeRom_bank1 v h, writeRom_bank2 v h, fun ha _ => writeRom_mode v h ha,
    fun hen => ⟨readRam_of_disabled hen sentinel a, writeRam_of_disabled hen a v⟩, fun hen hsize => ?_⟩⟩
  · simp [Cart.readRam, Cart.writeRam, Cart.ramMissing, ramUsable_noMapper h, h]
  · have husable := ramUsable_enabled h hen hsize
    exact ⟨readRam_usable sentinel husable, writeRam_usable v husable, readRam_writeRam sentinel v husable⟩

end

section
/-! The DMA machine: its trigger, each case of its tick, and a whole transfer (R461 to R464). -/

namespace Sys2Proof.Machine

/-! ### The cases of its tick (R462) -/

theorem dmaTick_idle {s : State} (ha : s.dma.active = false) : dmaTick s = .ok () s := by
  simp only [dmaTick, ha, if_true]

theorem dmaTick_waiting {s : State} (ha : s.dma.active = true) (hw : 0 < s.dma.wait) :
    dmaTick s = .ok () { s with dma := { s.dma with wait := s.dma.wait - 1 } } := by
  simp only [dmaTick, ha, hw, Bool.true_eq_false, if_true, if_false]

theorem dmaTick_finished {s : State} (ha : s.dma.active = true) (hw : s.dma.wait = 0) (hd : 0xFE9F < s.dma.dst.toNat) :
    dmaTick s = .ok () { s with dma := { s.dma with active := false } } := by
  simp only [dmaTick, ha, hw, hd, Nat.lt_irrefl, Bool.true_eq_false, if_true, if_false]

theorem dmaTick_copy {s : State} (ha : s.dma.active = true) (hw : s.dma.wait = 0) (hd : s.dma.dst.toNat ≤ 0xFE9F)
    (hs : s.chargeSafe) :
    dmaTick s = .ok () { (s.loaded s.dma.src).stored s.dma.dst (s.peek s.dma.src) with dma := s.dma.advance } := by
  rcases dmaTick_cases s hs with ⟨ha', -⟩ | ⟨-, hw', -⟩ | ⟨-, -, hd', -⟩ | ⟨-, -, -, -, e⟩
  · rw [ha] at ha'; cases ha'
  · omega
  · omega
  · exact e

/-! ### Ticks of the whole machine -/

theorem tick_of_dmaTick {s u : State} (e : dmaTick s.timerTick = .ok () u) : tick s = .ok () u.displayTick := by
  simp only [tick, update_bind]
  rw [bind_of_ok e]
  rfl

theorem ticks_one {s t : State} (e : tick s = .ok () t) : ticks 1 s = .ok () t :=
  bind_of_ok (f := fun _ => pure ()) e

theorem ticks_of_ticks {n m : Nat} {s t u : State} (e : ticks n s = .ok () t) (e' : ticks m t = .ok () u) :
    ticks (n + m) s = .ok () u := by
  rw [ticks_add, bind_of_ok e, e']

/-! ### A transfer under way -/

/-- The address of a page's byte. -/
def pageAddr (v : Byte) (k : Nat) : Addr := (v ++ 0x00#8) + BitVec.ofNat 16 k

/-- The address of a byte of OAM. -/
def copyAddr (k : Nat) : Addr := 0xFE00 + BitVec.ofNat 16 k

theorem pageAddr_toNat {v : Byte} {k : Nat} (hk : k < 160) :
    (pageAddr v k).toNat = v.toNat * 256 + k := by
  have hbase : (v ++ 0x00#8).toNat = v.toNat * 256 := by
    rw [BitVec.toNat_append, Nat.shiftLeft_eq]
    simp
  rw [pageAddr, BitVec.toNat_add, BitVec.toNat_ofNat, hbase]
  omega

theorem copyAddr_toNat {k : Nat} (hk : k ≤ 160) : (copyAddr k).toNat = 0xFE00 + k := by
  rw [copyAddr, BitVec.toNat_add, BitVec.toNat_ofNat]
  show (65024 + k % 65536) % 65536 = _
  omega

theorem pageAddr_succ (v : Byte) (k : Nat) : pageAddr v k + 1 = pageAddr v (k + 1) := by
  rw [pageAddr, BitVec.add_assoc, pageAddr, BitVec.ofNat_add]
  rfl

theorem copyAddr_succ (k : Nat) : copyAddr k + 1 = copyAddr (k + 1) := by
  rw [copyAddr, BitVec.add_assoc, copyAddr, BitVec.ofNat_add]
  rfl

theorem isStorage_copyAddr {k : Nat} (hk : k < 160) : isStorage (copyAddr k) = true :=
  isStorage_of_oam (region_oam.mpr (by rw [copyAddr_toNat hk.le]; omega))

/-- `t` is `s`, just triggered for a page, once `k` bytes are copied, with `w` ticks to wait. -/
structure Copying (s t : State) (v : Byte) (k w : Nat) : Prop where
  safe : t.chargeSafe
  ticked : ∃ n, Ticked n s t
  dma : t.dma = { src := pageAddr v k, dst := copyAddr k, wait := w, active := true, reg := v }
  copied : ∀ j < k, t.mem.read (copyAddr j).toNat = s.peek (pageAddr v j)

namespace Copying

variable {s t : State} {v : Byte} {k w : Nat}

theorem start (hd : s.dma = Dma.trigger v)
    (hm : s.cart.ramMissing = true → region (v ++ 0x00#8) ≠ .extRam) : Copying s s v 0 4 where
  safe := ⟨hd ▸ dma_trigger_ok v, fun h _ => hd ▸ hm h⟩
  ticked := ⟨0, Ticked.refl s⟩
  dma := by rw [hd, pageAddr, BitVec.add_zero]; rfl
  copied := fun _ h => absurd h (Nat.not_lt_zero _)

/-- The tick that follows, whatever its part of the DMA machine leaves. -/
theorem after_tick (h : Copying s t v k w) {u : State} (e : dmaTick t.timerTick = .ok () u) :
    tick t = .ok () u.displayTick ∧ u.displayTick.chargeSafe ∧ ∃ n, Ticked n s u.displayTick := by
  have etick := tick_of_dmaTick e
  obtain ⟨t', e', ht, hs⟩ := tick_ok t h.safe
  obtain ⟨n, hn⟩ := h.ticked
  rw [etick] at e'
  cases e'
  exact ⟨etick, hs, _, hn.trans ht⟩

/-- The timer's part of a tick leaves the transfer. -/
theorem timerTick_dma (h : Copying s t v k w) :
    t.timerTick.dma = { src := pageAddr v k, dst := copyAddr k, wait := w, active := true, reg := v } := h.dma

theorem tick_waiting (h : Copying s t v k (w + 1)) :
    ∃ t', tick t = .ok () t' ∧ Copying s t' v k w ∧ t'.mem = t.mem := by
  have e := dmaTick_waiting (s := t.timerTick) (by rw [h.timerTick_dma]) (by rw [h.timerTick_dma]; exact Nat.succ_pos w)
  rw [h.timerTick_dma] at e
  obtain ⟨etick, hs, hn⟩ := h.after_tick e
  exact ⟨_, etick, ⟨hs, hn, rfl, h.copied⟩, rfl⟩

theorem ticks_waiting (n : Nat) : ∀ {t : State}, Copying s t v k (w + n) →
    ∃ t', ticks n t = .ok () t' ∧ Copying s t' v k w ∧ t'.mem = t.mem := by
  induction n with
  | zero => exact fun h => ⟨_, rfl, h, rfl⟩
  | succ n ih =>
    intro t h
    obtain ⟨u, e, hu, hmem⟩ := h.tick_waiting
    obtain ⟨t', e', ht', hmem'⟩ := ih hu
    exact ⟨t', (bind_of_ok (f := fun _ => ticks n) e).trans e', ht', hmem'.trans hmem⟩

/-- A page below 0xFE is no part of the I/O page or of OAM, so its bytes are what they were. -/
theorem source_eq (h : Copying s t v k w) (hv : v.toNat < 0xFE) {j : Nat} (hj : j < 160) :
    t.peek (pageAddr v j) = s.peek (pageAddr v j) ∧ region (pageAddr v j) ≠ .io := by
  obtain ⟨n, hn⟩ := h.ticked
  have haddr := pageAddr_toNat (v := v) hj
  have hio : region (pageAddr v j) ≠ .io := fun hr => by have := region_io.mp hr; omega
  have hoam : region (pageAddr v j) ≠ .oam := fun hr => by have := region_oam.mp hr; omega
  exact ⟨peek_congr hio (fun _ => hn.memory _ hoam) hn.cart hn.ie hn.params, hio⟩

theorem tick_copy (h : Copying s t v k 0) (hv : v.toNat < 0xFE) (hk : k < 160) :
    ∃ t', tick t = .ok () t' ∧ Copying s t' v (k + 1) 3 := by
  obtain ⟨hsource, hio⟩ := h.source_eq hv hk
  have hdst := isStorage_copyAddr hk
  have hend : (copyAddr k).toNat ≤ 0xFE9F := by rw [copyAddr_toNat hk.le]; omega
  have hpeek : t.timerTick.peek (pageAddr v k) = s.peek (pageAddr v k) :=
    (peek_congr (s := t) (t := t.timerTick) hio (fun _ => rfl) rfl rfl rfl).trans hsource
  have e := dmaTick_copy (s := t.timerTick) (by rw [h.timerTick_dma]) (by rw [h.timerTick_dma])
    (by rw [h.timerTick_dma]; exact hend) (chargeSafe_of (s := t) rfl rfl h.safe)
  rw [h.timerTick_dma, loaded_of_not_io hio, hpeek, stored_storage _ hdst] at e
  obtain ⟨etick, hs, hn⟩ := h.after_tick e
  refine ⟨_, etick, hs, hn, ?_, fun j hj => ?_⟩
  · show Dma.advance _ = _
    rw [Dma.advance, pageAddr_succ, copyAddr_succ]
  · show (t.mem.write (copyAddr k).toNat _).read (copyAddr j).toNat = _
    obtain hlt | rfl := Nat.lt_succ_iff_lt_or_eq.mp hj
    · rw [Memory.read_write_other, h.copied j hlt]
      rw [copyAddr_toNat hk.le, copyAddr_toNat (by omega)]
      omega
    · exact Memory.read_write_same _ _ _

/-- The byte `k` of the page is about to be copied `4 k + 4` ticks after the trigger. -/
theorem about_to_copy (h : Copying s s v 0 4) (hv : v.toNat < 0xFE) :
    ∀ k < 160, ∃ t, ticks (4 * k + 4) s = .ok () t ∧ Copying s t v k 0 := by
  intro k
  induction k with
  | zero =>
    intro _
    obtain ⟨t, e, ht, -⟩ := ticks_waiting (w := 0) 4 h
    exact ⟨t, e, ht⟩
  | succ k ih =>
    intro hk
    obtain ⟨t, e, ht⟩ := ih (by omega)
    obtain ⟨u, e', hu⟩ := ht.tick_copy hv (by omega)
    obtain ⟨w, e'', hw, -⟩ := ticks_waiting (w := 0) 3 hu
    exact ⟨w, ticks_of_ticks e (ticks_of_ticks (ticks_one e') e''), hw⟩

/-- Past the end of OAM the machine stops. -/
theorem tick_finished (h : Copying s t v 160 0) :
    ∃ t', tick t = .ok () t' ∧ t'.dma.active = false ∧ t'.mem = t.mem := by
  have e := dmaTick_finished (s := t.timerTick) (by rw [h.timerTick_dma]) (by rw [h.timerTick_dma])
    (by rw [h.timerTick_dma]; show 0xFE9F < (copyAddr 160).toNat; decide)
  exact ⟨_, (h.after_tick e).1, rfl, rfl⟩

end Copying

end Sys2Proof.Machine

open Sys2Proof.Machine in
/-- Settles O50: the cases of the machine's tick. -/
theorem dmaMachine : Obligations.DmaMachine := by
  unfold Obligations.DmaMachine
  exact fun s v => ⟨rfl, dmaTick_idle, dmaTick_waiting, dmaTick_finished,
    fun ha hw hd _ hsafe => dmaTick_copy ha hw hd hsafe.1⟩

open Sys2Proof.Machine in
/-- Settles O51: 640 ticks bring the machine to the last byte, one more copies it, three pass, and one stops it. -/
theorem dmaCopiesPage : Obligations.DmaCopiesPage := by
  unfold Obligations.DmaCopiesPage
  intro s v hv hd hm
  have hstart := Copying.start hd hm
  obtain ⟨r, er, hr⟩ := hstart.about_to_copy hv 159 (by decide)
  obtain ⟨t, et, ht⟩ := hr.tick_copy hv (by decide)
  obtain ⟨u, eu, hu, humem⟩ := Copying.ticks_waiting (w := 0) 3 ht
  obtain ⟨w, ew, hw, hwmem⟩ := hu.tick_finished
  refine ⟨t, u, w, ticks_of_ticks er (ticks_one et), eu, ticks_one ew, fun k hk => ?_, ?_, hw, hwmem.trans humem⟩
  · exact (peek_storage (isStorage_copyAddr hk)).trans (ht.copied k hk)
  · rw [hu.dma]

end

section
/-! The state after reset (R6, R501), and words of the encoding written out (R120, R130, R131). -/

namespace Sys2Proof.Machine

/-- The registers of a cartridge as loaded are as reset leaves them (R501). -/
theorem Cart.load_registers {image ram : Memory} {len : Nat} {c : Cart} (h : Cart.load image len ram = .ok c) :
    c.bank1 = 1 ∧ c.bank2 = 0 ∧ c.ramEn = false ∧ c.bmode = false := by
  unfold Cart.load at h
  simp only [] at h
  repeat' split at h
  all_goals cases h
  all_goals exact ⟨rfl, rfl, rfl, rfl⟩

theorem Timer.boot_inv (div : BitVec 16) : (Timer.boot div).Inv := ⟨nofun, fun _ => rfl, Nat.zero_le 4⟩

theorem Dma.boot_inv (reg : Byte) : (Dma.boot reg).Inv := ⟨rfl, Nat.zero_le 4⟩

theorem Cart.blank_inv : Cart.blank.Inv := ⟨rfl, rfl, nofun, by decide⟩

theorem Memory.nil_inv : Memory.Inv [] := ⟨rfl, nofun⟩

/-- A controller reset to a visible scanline is at the start of its scan. -/
theorem Display.boot_inv {r : ResetPpuRegs} (h : r.ly.toNat < 144) : (Display.boot r).Inv where
  ly := Nat.le_trans h.le (by decide)
  lx := Nat.zero_le 160
  dot := Nat.zero_lt_succ 455
  sprites := Nat.zero_le 10
  spriteX := nofun
  asked := rfl
  fSub := Nat.zero_le 2
  layer := nofun
  discard := Nat.zero_le 7
  bgFifo := Nat.zero_le 8
  spFifo := Nat.zero_le 8
  vblank := ⟨nofun, fun hly => absurd h (Nat.not_lt.mpr hly)⟩
  vblankColumn := nofun
  scan := fun _ => ⟨Nat.zero_lt_succ 79, rfl⟩
  drawing := nofun

theorem Cpu.reset_inv : State.reset.cpu.Inv := ⟨by decide, rfl, nofun⟩

theorem peek_ie (s : State) : s.peek 0xFFFF = 0b111#3 ++ s.ie := rfl

theorem peek_requests (s : State) : s.peek 0xFF0F = 0b111#3 ++ s.iflag := rfl

end Sys2Proof.Machine

open Sys2Proof.Machine in
/-- Settles O15: each part's reset state meets its own invariant. -/
theorem resetMeetsInvariant : Obligations.ResetMeetsInvariant :=
  ⟨Cpu.reset_inv, Memory.nil_inv, Timer.boot_inv _, Display.boot_inv (by decide), Dma.boot_inv _, Cart.blank_inv⟩

open Sys2Proof.Machine in
/-- Settles O18: the fields of `State.boot`, and the decided values of R6 put into them. -/
theorem resetState : Obligations.ResetState := by
  unfold Obligations.ResetState
  intro p v ram cart host s
  have hie : s.peek 0xFFFF = 0xE0 := (peek_ie s).trans (by decide : 0b111#3 ++ 0#5 = 0xE0#8)
  refine ⟨rfl, rfl, rfl, rfl, rfl, rfl, rfl, rfl, rfl, rfl, rfl, rfl, rfl, rfl, rfl, rfl, rfl, hie, rfl, rfl, rfl, rfl,
    rfl, rfl, rfl, rfl, rfl, rfl, rfl, rfl, rfl, rfl, rfl, rfl, rfl, rfl, rfl, rfl, rfl, rfl, rfl, rfl, rfl, rfl, rfl,
    fun hv => ?_, ⟨[], Cart.blank, [], rfl⟩, fun _ _ _ _ => Cart.load_registers⟩
  subst hv
  have hrequests : s.peek 0xFF0F = 0xE1 := (peek_requests s).trans (by decide : 0b111#3 ++ 1#5 = 0xE1#8)
  exact ⟨rfl, rfl, rfl, rfl, rfl, rfl, rfl, rfl, rfl, rfl, hrequests, rfl, rfl, rfl, rfl, rfl, rfl, rfl, rfl, rfl, rfl,
    rfl, rfl⟩

/-- Settles O4: the decoder run on each word. -/
theorem decodedWords : Obligations.DecodedWords := by
  unfold Obligations.DecodedWords
  exact ⟨rfl, rfl, rfl, rfl, rfl, rfl, rfl, rfl, rfl⟩

end

section
/-! The decoder and the encoder undo each other (R120 to R136): every instruction stands in one of the tables, and an
entry's encoding decodes by that entry. -/

namespace Sys2Proof

/-! ### Every instruction stands in a table -/

/-- The entry makes the instruction, of some immediate if it takes one. -/
def Entry.Makes : Entry → Instr → Prop
  | .op j, i => j = i
  | .skip1 j, i => j = i
  | .imm8 f, i => ∃ n, f n = i
  | .imm16 f, i => ∃ nn, f nn = i

/-- The instruction stands where its encoding says: behind 0xCB in the second table, else in the first. -/
def Instr.InTable (i : Instr) : Prop :=
  match encode i with
  | 0xCB#8 :: op :: _ => secondEntry op = i
  | op :: _ => (firstEntry op).Makes i
  | [] => False

/-- The entries without an immediate are the instruction; the others make it of the immediate it holds. -/
theorem Instr.inTable (i : Instr) : i.InTable := by
  cases i with
  | ldBcNn | ldBN | ldMemNnSp | ldCN | ldDeNn | ldDN | jrE | ldEN | jrNzE | ldHlNn | ldHN | jrZE | ldLN | jrNcE
  | ldSpNn | ldMemHlN | jrCE | ldAN | jpNzNn | jpNn | callNzNn | addAN | jpZNn | callZNn | callNn | adcAN
  | jpNcNn | callNcNn | subN | jpCNn | callCNn | sbcAN | ldhMemNA | andN | addSpE | ldMemNnA | xorN | ldhAMemN
  | orN | ldHlSpE | ldAMemNn | cpN => exact ⟨_, rfl⟩
  | _ => exact rfl

theorem Instr.table_cases (i : Instr) : (∃ op, i = secondEntry op) ∨ ∃ op, (firstEntry op).Makes i := by
  have h := i.inTable
  unfold Instr.InTable at h
  split at h
  · exact .inl ⟨_, h.symm⟩
  · exact .inr ⟨_, h⟩
  · exact h.elim

theorem makes_prefix {i : Instr} (h : (firstEntry 0xCB).Makes i) : i = .prefixCb := h.symm

/-! ### Decoding an encoding -/

/-- The bytes after the opcode are the immediates the entry takes. -/
theorem Entry.Encodes.takeImmediates {e : Entry} {op : Byte} {i : Instr} (he : e.Encodes op) (hm : e.Makes i)
    (hi : i ≠ .stop) : ∃ imm, encode i = op :: imm ∧ ∀ rest, takeImmediates e (imm ++ rest) = .ok (i, rest) := by
  cases e with
  | op j => cases hm; exact ⟨[], he.1, fun _ => rfl⟩
  | skip1 j => cases hm; exact absurd he.1 hi
  | imm8 f =>
    obtain ⟨n, rfl⟩ := hm
    exact ⟨[n], (he n).1, fun _ => rfl⟩
  | imm16 f =>
    obtain ⟨nn, rfl⟩ := hm
    refine ⟨[loByte nn, hiByte nn], (he nn).1, fun rest => ?_⟩
    show Except.ok (f (concat8 (hiByte nn) (loByte nn)), rest) = _
    rw [Machine.concat8_bytes]

/-- What an entry decodes is encoded as the bytes it was decoded from; STOP skips its second byte. -/
theorem Entry.Encodes.of_takeImmediates {e : Entry} {op : Byte} {bs rest : List Byte} {i : Instr} (he : e.Encodes op)
    (h : Sys2Proof.takeImmediates e bs = .ok (i, rest)) :
    (i ≠ .stop ∧ encode i ++ rest = op :: bs) ∨ (i = .stop ∧ op = 0x10 ∧ rest = bs.drop 1) := by
  cases e with
  | op j => cases h; exact .inl ⟨he.2, by rw [he.1]; rfl⟩
  | skip1 j => cases h; exact .inr ⟨he.1, he.2, rfl⟩
  | imm8 f =>
    match bs, h with
    | n :: bs, h => cases h; exact .inl ⟨(he n).2, by rw [(he n).1]; rfl⟩
  | imm16 f =>
    match bs, h with
    | lo :: hi :: bs, h =>
      cases h
      refine .inl ⟨(he _).2, ?_⟩
      rw [(he _).1, Machine.loByte_concat8, Machine.hiByte_concat8]
      rfl

/-- The forms an encoding takes: STOP's, 0xCB alone, those of the second table, and the others of the first. -/
theorem Instr.encoding_cases (i : Instr) :
    i = .stop ∨ i = .prefixCb ∨ (∃ op, i = secondEntry op ∧ encode i = [0xCB, op]) ∨
      (i ≠ .stop ∧ ∃ op imm, op ≠ 0xCB ∧ encode i = op :: imm ∧
        ∀ rest, decodeFirst (op :: (imm ++ rest)) = .ok (i, rest)) := by
  obtain ⟨op, rfl⟩ | ⟨op, hm⟩ := i.table_cases
  · exact .inr (.inr (.inl ⟨op, rfl, (secondEntry_encodes op).1⟩))
  · by_cases hstop : i = .stop
    · exact .inl hstop
    by_cases hop : op = 0xCB
    · exact .inr (.inl (makes_prefix (hop ▸ hm)))
    · obtain ⟨imm, henc, hdec⟩ := (firstEntry_encodes op).takeImmediates hm hstop
      exact .inr (.inr (.inr ⟨hstop, op, imm, hop, henc, hdec⟩))

/-- Bytes that do not begin with 0xCB are decoded by the first table. -/
theorem decode_of_ne {op : Byte} (bs : List Byte) (h : op ≠ 0xCB) : decode (op :: bs) = decodeFirst (op :: bs) := by
  unfold decode
  split
  · rename_i heq
    exact absurd (List.cons.inj heq).1 h
  · rfl

theorem fetchedBytes_second {i : Instr} {op : Byte} (h : encode i = [0xCB, op]) : fetchedBytes i = [op] := by
  unfold fetchedBytes
  rw [h]
  rfl

theorem isSecondTable_second {i : Instr} {op : Byte} (h : encode i = [0xCB, op]) : i.isSecondTable = true := by
  unfold Instr.isSecondTable
  rw [h]
  rfl

theorem fetchedBytes_first {i : Instr} {op : Byte} {imm : List Byte} (h : encode i = op :: imm) (hop : op ≠ 0xCB)
    (hi : i ≠ .stop) : fetchedBytes i = op :: imm := by
  unfold fetchedBytes
  rw [h]
  split
  · rename_i heq
    exact absurd (List.cons.inj heq).1 hop
  · rw [if_neg hi]

theorem isSecondTable_first {i : Instr} {op : Byte} {imm : List Byte} (h : encode i = op :: imm) (hop : op ≠ 0xCB) :
    i.isSecondTable = false := by
  unfold Instr.isSecondTable
  rw [h]
  exact decide_eq_false fun ⟨_, hhead⟩ => hop (Option.some.inj hhead)

end Sys2Proof

open Sys2Proof in
/-- Settles O1: by the form of the encoding. -/
theorem decodeOfEncode : Obligations.DecodeOfEncode := by
  unfold Obligations.DecodeOfEncode
  intro i rest _
  obtain rfl | rfl | ⟨op, hi, henc⟩ | ⟨hstop, op, imm, hop, henc, hdec⟩ := i.encoding_cases
  · exact ⟨fun _ => rfl, rfl, nofun, fun _ h => absurd rfl h, rfl⟩
  · exact ⟨fun h => absurd rfl h, rfl, nofun, fun _ _ => rfl, rfl⟩
  · have hsecond := isSecondTable_second henc
    rw [fetchedBytes_second henc, henc, hsecond, hi]
    exact ⟨fun _ => rfl, rfl, fun _ => rfl, nofun, rfl⟩
  · rw [fetchedBytes_first henc hop hstop, isSecondTable_first henc hop, henc]
    exact ⟨fun _ => (decode_of_ne _ hop).trans (hdec rest), rfl, nofun, fun _ _ => hdec rest, rfl⟩

open Sys2Proof in
/-- Settles O2: by the table the bytes are decoded by. -/
theorem encodeOfDecode : Obligations.EncodeOfDecode := by
  unfold Obligations.EncodeOfDecode
  intro bs rest i h
  unfold decode at h
  split at h
  · next op tail =>
    cases h
    obtain ⟨henc, hstop⟩ := secondEntry_encodes op
    exact ⟨fun _ => by rw [henc]; rfl, fun h => absurd h hstop⟩
  · match bs, h with
    | op :: tail, h =>
      obtain ⟨hstop, henc⟩ | ⟨hstop, rfl, hrest⟩ := (firstEntry_encodes op).of_takeImmediates h
      · exact ⟨fun _ => henc, fun h => absurd h hstop⟩
      · exact ⟨fun h => absurd hstop h, fun _ => ⟨tail, rfl, hrest⟩⟩

end
